-- ==== Sys2Proof/Word.lean ====
section
/-! DEFINITION. The word types of the PRC-416 and the plainest arithmetic on them. -/

namespace Sys2Proof

/-- One byte of a frame (Appendix A). -/
abbrev Byte := BitVec 8

/-- A value of the internal tick: 32-bit count of milliseconds, wrapping (R174). -/
abbrev Tick := BitVec 32

/-- A value of the seconds clock: 32-bit count of seconds, wrapping (R174). -/
abbrev Secs := BitVec 32

/-- The largest value of a 32-bit saturating quantity, 4,294,967,295 (R1). -/
def max32 : Nat := 4294967295

/-- The largest value of a 16-bit saturating count, 65,535 (R1). -/
def max16 : Nat := 65535

/-- Saturating addition (R1): the sum, or the largest value of the width. -/
def satAdd (top a b : Nat) : Nat := min (a + b) top

/-- One value for each of the four section ports, or of the four actuator tables. -/
structure Four (α : Type) where
  p0 : α
  p1 : α
  p2 : α
  p3 : α
  deriving DecidableEq, Repr

/-- The value at one of the four places. -/
def Four.get {α : Type} (f : Four α) (i : Fin 4) : α :=
  match i with
  | 0 => f.p0
  | 1 => f.p1
  | 2 => f.p2
  | 3 => f.p3

/-- The four values with one place replaced. -/
def Four.set {α : Type} (f : Four α) (i : Fin 4) (x : α) : Four α :=
  match i with
  | 0 => { f with p0 := x }
  | 1 => { f with p1 := x }
  | 2 => { f with p2 := x }
  | 3 => { f with p3 := x }

/-- The four values with one place changed by a function. -/
def Four.modify {α : Type} (f : Four α) (i : Fin 4) (g : α → α) : Four α := f.set i (g (f.get i))

/-- All four values, place 0 first. -/
def Four.toList {α : Type} (f : Four α) : List α := [f.p0, f.p1, f.p2, f.p3]

/-- The same value at every place. -/
def Four.all {α : Type} (x : α) : Four α := ⟨x, x, x, x⟩

/-- A function applied at every place. -/
def Four.map {α β : Type} (f : Four α) (g : α → β) : Four β := ⟨g f.p0, g f.p1, g f.p2, g f.p3⟩

end Sys2Proof
end

