-- ==== Sys2Proof/Syntax.lean ====
section
/-! DEFINITION. The commands of the PRC-416: one constructor for each row of spec/opcode_table.json, in the table's order.
A request row carries the tag and the body bytes of the supervisor frame that the link takes (R182); a section-line row
carries the port and the bytes of the frame that ends on that line (R183); an expiry row names the deadline that expires. -/

namespace Sys2Proof

inductive Instr where
  /-- SUPPLY_APPLIED (R179). -/
  | supplyApplied
  /-- RESET_ASSERTED (R179). -/
  | resetAsserted
  /-- RESET_HOLD_EXPIRY (R179): the input has been held for 50 ms. -/
  | resetHoldExpiry
  /-- RESET_RELEASED (R179). -/
  | resetReleased
  /-- SUPERVISOR_FRAME (R168): bytes that arrive on the supervisor line, in order. -/
  | supervisorFrame (bytes : List Byte)
  /-- INTER_BYTE_TIMEOUT (R168): 5 ms without the next byte of the frame in progress. -/
  | interByteTimeout
  /-- UNKNOWN_REQUEST (R170): the link takes a frame whose kind names no request. -/
  | unknownRequest (kind tag : Byte) (body : List Byte)
  /-- IDENT (R175). -/
  | ident (tag : Byte) (body : List Byte)
  /-- SET_CLOCK (R174). -/
  | setClock (tag : Byte) (body : List Byte)
  /-- FETCH_NOTICES (R173). -/
  | fetchNotices (tag : Byte) (body : List Byte)
  /-- SET_MODE (R177). -/
  | setMode (tag : Byte) (body : List Byte)
  /-- RESTART (R180): the request and its reply. -/
  | restart (tag : Byte) (body : List Byte)
  /-- WARM_RESTART (R180): the restart itself, once the reply has been sent. -/
  | warmRestart
  /-- MAP_WRITE (R10). -/
  | mapWrite (tag : Byte) (body : List Byte)
  /-- MAP_CLEAR (R11). -/
  | mapClear (tag : Byte) (body : List Byte)
  /-- MAP_DISCARD (R11). -/
  | mapDiscard (tag : Byte) (body : List Byte)
  /-- MAP_READ (R12). -/
  | mapRead (tag : Byte) (body : List Byte)
  /-- MAP_COMMIT (R17); `verified` says whether the bank, read back, matches what was written (R24). -/
  | mapCommit (tag : Byte) (body : List Byte) (verified : Bool)
  /-- MAP_IDENT (R23). -/
  | mapIdent (tag : Byte) (body : List Byte)
  /-- MAP_LOCATE (R25). -/
  | mapLocate (tag : Byte) (body : List Byte)
  /-- ROSTER_SET (R142). -/
  | rosterSet (tag : Byte) (body : List Byte)
  /-- QUERY_METER (R42). -/
  | queryMeter (tag : Byte) (body : List Byte)
  /-- QUERY_SECTION (R43). -/
  | querySection (tag : Byte) (body : List Byte)
  /-- UNFREEZE_CREDIT (R40). -/
  | unfreezeCredit (tag : Byte) (body : List Byte)
  /-- UNFREEZE_DISCARD (R41). -/
  | unfreezeDiscard (tag : Byte) (body : List Byte)
  /-- DECLARE_PIG (R62). -/
  | declarePig (tag : Byte) (body : List Byte)
  /-- FIX_PIG (R64). -/
  | fixPig (tag : Byte) (body : List Byte)
  /-- WRITE_OFF_PIG (R65). -/
  | writeOffPig (tag : Byte) (body : List Byte)
  /-- QUERY_PIG (R66). -/
  | queryPig (tag : Byte) (body : List Byte)
  /-- QUERY_RUN_TABLE (R67). -/
  | queryRunTable (tag : Byte) (body : List Byte)
  /-- LOAD_PIG (R102). -/
  | loadPig (tag : Byte) (body : List Byte)
  /-- LAUNCH (R103). -/
  | launch (tag : Byte) (body : List Byte)
  /-- RECEIVE_ARM (R111). -/
  | receiveArm (tag : Byte) (body : List Byte)
  /-- TRANSFER (R116). -/
  | transfer (tag : Byte) (body : List Byte)
  /-- REMOVE_PIG (R117). -/
  | removePig (tag : Byte) (body : List Byte)
  /-- ABORT (R120). -/
  | abort (tag : Byte) (body : List Byte)
  /-- RESUME (R122). -/
  | resume (tag : Byte) (body : List Byte)
  /-- QUERY_TRAP (R125). -/
  | queryTrap (tag : Byte) (body : List Byte)
  /-- VALVE (R127). -/
  | valve (tag : Byte) (body : List Byte)
  /-- QUERY_VALVE (R140). -/
  | queryValve (tag : Byte) (body : List Byte)
  /-- QUERY_PORT (R156). -/
  | queryPort (tag : Byte) (body : List Byte)
  /-- QUERY_STATION (R157). -/
  | queryStation (tag : Byte) (body : List Byte)
  /-- RESET_PORT (R158). -/
  | resetPort (tag : Byte) (body : List Byte)
  /-- RECORD_START (R164). -/
  | recordStart (tag : Byte) (body : List Byte)
  /-- RECORD_NEXT (R165). -/
  | recordNext (tag : Byte) (body : List Byte)
  /-- POLL_GAP_EXPIRY (R145). -/
  | pollGapExpiry (port : Fin 4)
  /-- SECTION_TRANSMIT_DONE (R147). -/
  | sectionTransmitDone (port : Fin 4)
  /-- REPLY_TIMEOUT (R149). -/
  | replyTimeout (port : Fin 4)
  /-- REPORT (R153): a frame of kind REPORT, whole or a part. -/
  | report (port : Fin 4) (bytes : List Byte)
  /-- ACK (R135). -/
  | ack (port : Fin 4) (bytes : List Byte)
  /-- NAK (R148). -/
  | nak (port : Fin 4) (bytes : List Byte)
  /-- BAD_FRAME (R148): a frame that fails its check or answers wrongly. -/
  | badFrame (port : Fin 4) (bytes : List Byte)
  /-- VALVE_TIMEOUT (R137): the deadline of the valve's outstanding command expires. -/
  | valveTimeout (station slot : Nat)
  /-- EQUALISE_TIMEOUT (R105). -/
  | equaliseTimeout (trap : Nat)
  /-- DRIVE_TIMEOUT (R106). -/
  | driveTimeout (trap : Nat)
  /-- DIVERTING_TIMEOUT (R112). -/
  | divertingTimeout (trap : Nat)
  /-- LOSS_OF_SUPPLY (R24); `bankWrite` says whether a bank write is in progress as the supply goes. -/
  | lossOfSupply (bankWrite : Bool)
  /-- SECTION_BYTE_GAP (R183). -/
  | sectionByteGap (port : Fin 4)
  deriving DecidableEq, Repr

end Sys2Proof
end

