-- ==== Sys2Proof/Config.lean ====
section
/-! DEFINITION. What the manual leaves to the implementation: constants without a body, so that nothing can be proved of
their values. -/

namespace Sys2Proof

/-- The major number of the firmware revision that IDENT reports (R175); the manual gives no value (log entry 15). -/
opaque Config.firmwareMajor : Nat

/-- The minor number of the firmware revision that IDENT reports (R175); the manual gives no value (log entry 15). -/
opaque Config.firmwareMinor : Nat

/-- Whether a COLD restart takes the second bank when both pass their check with EQUAL commit counts, which the
saturation of the count makes possible; R24 names only the greater count (log entry 15). -/
opaque Config.tieTakesSecondBank : Bool

end Sys2Proof
end

