-- ==== Sys2Proof/Machine/Types.lean ====
section
/-! DEFINITION. The plain data the PRC-416 holds: configuration records, the records of each block, notices, replies and
frames. Every type is named as the manual names the thing; each field cites the rule that gives it. -/

namespace Sys2Proof.Machine

/-- A collection of records under number identities: strictly rising keys (kept by the operations of Ops.lean), so that
equal collections are equal data. -/
abbrev Table (α : Type) := List (Nat × α)

/-! ## Enumerations -/

/-- Pig kinds (R44). -/
inductive PigKind | scraper | brush | cup | foam
  deriving DecidableEq, Repr

/-- Detector kinds of a station (R3). -/
inductive Detector | none | trip | tag | both
  deriving DecidableEq, Repr

/-- Trap roles (R6). -/
inductive TrapRole | launcher | receiver
  deriving DecidableEq, Repr

/-- Valve roles (R7). -/
inductive ValveRole | mainline | barrel | flow | equalise
  deriving DecidableEq, Repr

/-- Operating modes (R176). -/
inductive Mode | setup | tracking | frozen
  deriving DecidableEq, Repr

/-- Station liveness (R144). -/
inductive Liveness | unknown | alive | silent
  deriving DecidableEq, Repr

/-- Meter health (R27). -/
inductive Health | unbaselined | healthy | suspect | silent
  deriving DecidableEq, Repr

/-- Valve command actions (R126). -/
inductive Action | opening | closing | throttle
  deriving DecidableEq, Repr

/-- Valve command classes (R126). -/
inductive CmdClass | normal | esd
  deriving DecidableEq, Repr

/-- Where a valve command came from (R126). -/
inductive Origin
  | host
  | sequence (trap : Nat)
  deriving DecidableEq, Repr

/-- A place named by a record entry, a last fix or a limit: a station, a trap, or none (R161). -/
inductive Point
  | none
  | station (n : Nat)
  | trap (n : Nat)
  deriving DecidableEq, Repr

/-- Reply codes (R171). -/
inductive ReplyCode
  | ok | unknownRequest | badLength | mode | range | noSuch | full | duplicate
  | order | tooClose | pigNear | valveBusy | trapBusy | portBusy
  | uncommitted | invalidMap | notEmpty | noCursor | gone
  deriving DecidableEq, Repr

/-- INVALID MAP reasons (R14 to R16, R184). -/
inductive MapReason
  | gap | fillRange | length | volumeRange | stationOrder | trapPlacement | sectionMeter | pairing | valveRole
  | tuning | roster
  deriving DecidableEq, Repr

/-- Notice kinds (R172). -/
inductive NoticeKind
  | meterNotInMap | meterDiscontinuity | sectionNoMeter | sectionMeterRestored
  | passage | pigMissed | strayPassage | unexpectedTrip | tagReadsLost | detectorDiscontinuity
  | pigOverdue | pigStuckSuspect | pigBlockedAtReceiver
  | pigLaunched | pigReceived | receiverArmed | sequenceFault | sequenceDone | trapNotInMap
  | valveDone | valveFailed | forcedCloseNearPig | valveNotInMap
  | stationSilent | stationRecovered | restarted
  deriving DecidableEq, Repr

/-- Run record entry kinds (R161). -/
inductive EntryKind
  | loaded | launched | launchedDuringAbort | confirmedByTag | confirmedByTrip | unverified | missed
  | passedUnobserved | lateConfirmed | passedByInference | passedByFix | declared | fixed | received | transferred
  | overdue | stuckSuspect
  deriving DecidableEq, Repr

/-- Command and fault reasons (R104, R137, R184). -/
inductive Reason
  | valveTimeout | valveFault | valveRejected | linkFailed | linkReset | superseded | pigNear | portBusy
  | equaliseTimeout | noLaunch | interlockTimeout | separationTimeout | valveOverridden
  deriving DecidableEq, Repr

/-- Outcomes of runs and of sequences (R160, R98, R184). -/
inductive Result | received | unloaded | writtenOff | launched | noPig | aborted
  deriving DecidableEq, Repr

/-- PASSAGE outcomes (R83, R184). -/
inductive PassageOutcome | confirmedByTag | confirmedByTrip | unverified | lateConfirmed
  deriving DecidableEq, Repr

/-- Trap states and steps (R99, R184). -/
inductive TrapState
  | empty | loaded | equalising | opening | driving | diverting | waiting | restoring | holding | fault | suspended
  deriving DecidableEq, Repr

/-- Hold reasons of a step (R98). -/
inductive HoldReason | none | separation | interlock | portSpace
  deriving DecidableEq, Repr

/-- Conditions of a step command (R98). -/
inductive StepCond | notIssued | held | placed | complete | failed
  deriving DecidableEq, Repr

/-- Causes for which the command table holds a sequence command (R126). -/
inductive HoldCause | interlock | portSpace | tableSpace
  deriving DecidableEq, Repr

/-- Valve states as a station reports them (R126). -/
inductive ValveState | remote | localCtl | fault
  deriving DecidableEq, Repr

/-- Frames a section port sends (R147). -/
inductive FrameSent | poll | command
  deriving DecidableEq, Repr

/-- Kinds of failure in a port's last-failure record (R155). -/
inductive FailKind | noReply | badFrame | partMissing | nak
  deriving DecidableEq, Repr

/-- The level of the reset input and for how long (R179): released, asserted for less than 50 ms, or held asserted for 50 ms, which stops
the part. -/
inductive ResetInput | released | asserted | held
  deriving DecidableEq, Repr

/-! ## Times, fields, notices, replies, frames -/

/-- A value of the seconds clock with the indication whether the clock had been set when it was taken (R174). -/
structure Stamp where
  secs : Secs
  set : Bool
  deriving DecidableEq, Repr

/-- One field of a reply or of a notice's detail, with its width in bytes (R182): a plain value; an optional value whose
absence is sent as all ones; an optional value preceded by a presence byte. -/
inductive Field
  | val (bytes v : Nat)
  | opt (bytes : Nat) (v : Option Nat)
  | pres (bytes : Nat) (v : Option Nat)
  deriving DecidableEq, Repr

/-- A notice record (R172). -/
structure Notice where
  kind : NoticeKind
  time : Stamp
  pig : Option Nat
  station : Option Nat
  trap : Option Nat
  detail : List Field
  deriving DecidableEq, Repr

/-- A request frame of the supervisor line, complete (R168, R182). -/
structure Frame where
  kind : Byte
  tag : Byte
  body : List Byte
  deriving DecidableEq, Repr

/-- A reply (R170): the kind and tag of its request, the reply code and the result fields in the order of the owning rule. -/
structure Reply where
  kind : Byte
  tag : Byte
  code : ReplyCode
  fields : List Field
  deriving DecidableEq, Repr

/-- A section-line frame that passed its check (R183). -/
structure SecFrame where
  station : Byte
  kind : Byte
  part : Byte
  body : List Byte
  deriving DecidableEq, Repr

/-! ## The line map (chapter 1) -/

/-- Segment record (R2). -/
structure Segment where
  start : Nat
  length : Nat
  fill : Nat
  deriving DecidableEq, Repr

/-- Station record (R3). -/
structure Station where
  chainage : Nat
  detector : Detector
  guardVol : Nat
  rearm : Nat
  boundary : Bool
  deriving DecidableEq, Repr

/-- Section record (R4). -/
structure Section where
  primary : Nat
  alternate : Option Nat
  deriving DecidableEq, Repr

/-- Meter record (R5). -/
structure Meter where
  station : Nat
  width : Nat
  weight : Nat
  deriving DecidableEq, Repr

/-- Trap record (R6). -/
structure Trap where
  station : Nat
  role : TrapRole
  chainage : Nat
  pair : Option Nat
  mainline : Nat
  barrel : Nat
  flow : Nat
  equalise : Nat
  throttle : Nat
  equaliseTimeout : Nat
  driveTimeout : Nat
  armTime : Nat
  minLead : Nat
  autoArm : Bool
  deriving DecidableEq, Repr

/-- Valve record of the map (R7). -/
structure Valve where
  role : ValveRole
  actuator : Fin 4
  stroke : Nat
  deriving DecidableEq, Repr

/-- Tuning record (R8), in its order. -/
structure Tuning where
  smin : Nat
  u0 : Nat
  q : Nat
  umax : Nat
  ks : Nat
  fmin : Nat
  slipScraper : Nat
  slipBrush : Nat
  slipCup : Nat
  slipFoam : Nat
  deriving DecidableEq, Repr

/-- Roster record of one port (R141, R142). -/
structure Roster where
  stations : List Nat
  replyTimeout : Nat
  retryLimit : Nat
  pollGap : Nat
  deriving DecidableEq, Repr

/-- One copy of the map's configured records (R9). A valve stands under the key station × 256 + slot. -/
structure MapCopy where
  segments : Table Segment
  stations : Table Station
  sections : Table Section
  meters : Table Meter
  traps : Table Trap
  valves : Table Valve
  actuators : Four (List Nat)
  tuning : Tuning
  rosters : Four Roster
  deriving DecidableEq, Repr

/-- What a bank of the stored configuration gives when its check passes (R24). -/
structure Bank where
  map : MapCopy
  count : Nat
  deriving DecidableEq, Repr

/-- The line map block (R9, R23, R24). A bank that fails its check is `none`; `current` is the bank that holds the current
stored configuration (false the first, true the second). -/
structure LineMap where
  working : MapCopy
  committed : MapCopy
  commitCount : Nat
  checksum : Nat
  storedCount : Nat
  bank0 : Option Bank
  bank1 : Option Bank
  current : Option Bool
  deriving DecidableEq, Repr

/-! ## Meters and sections (chapter 2) -/

/-- Meter unit record of one meter (R26). -/
structure MeterRec where
  health : Health
  lastCount : Option Nat
  plausible : Nat
  residue : Nat
  totaliser : Nat
  counts : Nat
  stamp : Option Tick
  deriving DecidableEq, Repr

/-- Meter unit record of one section (R34). -/
structure SectionRec where
  driver : Option Nat
  meteredSince : Bool
  lastCredit : Nat
  lastInterval : Nat
  held : Nat
  deriving DecidableEq, Repr

/-- The meter unit (R26, R34). -/
structure MeterUnit where
  meters : Table MeterRec
  sections : Table SectionRec
  deriving DecidableEq, Repr

/-! ## The run table (chapters 3 and 5) -/

/-- A pig record of the run table (R44). -/
structure Pig where
  id : Nat
  tag : Nat
  kind : PigKind
  slip : Nat
  rp : Nat
  P : Nat
  M : Nat
  O : Nat
  fixAt : Nat
  fixPoint : Point
  fixTime : Stamp
  legEnd : Nat
  overdue : Bool
  stuck : Bool
  blocked : Bool
  noMeter : Bool
  stale : Bool
  seq : Nat
  deriving DecidableEq, Repr

/-- The run table (R47, R48, R44): entries front first, the launchers holding reservations, the next entry sequence number. -/
structure RunTable where
  pigs : List Pig
  reservations : List Nat
  nextSeq : Nat
  deriving DecidableEq, Repr

/-! ## Passage attribution (chapter 4) -/

/-- Attribution record of one station (R72) with its expected-passage list (R69). `baseline` is none when UNBASELINED and
otherwise the trip and tag-read counter values last taken. -/
structure StationAttr where
  baseline : Option (Byte × Byte)
  lastPassage : Option Nat
  doubles : Nat
  recovery : Bool
  unobserved : List Nat
  expected : List Nat
  deriving DecidableEq, Repr

/-- Passage attribution (R69, R72): the stations' records, the receiver traps' lists, the sections' running volumes. -/
structure Attribution where
  stations : Table StationAttr
  receivers : Table (List Nat)
  running : Table Nat
  deriving DecidableEq, Repr

/-! ## Trap sequences (chapter 6) -/

/-- A pig in a trap's holding (R98). -/
structure HeldPig where
  id : Nat
  tag : Nat
  kind : PigKind
  slip : Nat
  deriving DecidableEq, Repr

/-- A valve command that the current step calls for, and its condition (R98, R104). -/
structure StepCmd where
  role : ValveRole
  action : Action
  cond : StepCond
  deriving DecidableEq, Repr

/-- The last fault of a sequence (R98, R118). -/
structure SeqFault where
  reason : Reason
  step : Option TrapState
  slot : Option Nat
  time : Stamp
  deriving DecidableEq, Repr

/-- The sequencer's record of one trap (R98). -/
structure TrapRec where
  state : TrapState
  step : Option TrapState
  abort : Bool
  holding : Option HeldPig
  target : Option Nat
  launched : Option Nat
  cmds : List StepCmd
  eqSeen : Bool
  hold : HoldReason
  deadline : Option Tick
  lastFault : Option SeqFault
  result : Option Result
  barrel : Option Byte
  suppressed : Option Nat
  deriving DecidableEq, Repr

/-! ## Station commands (chapter 7) -/

/-- An outstanding command (R126); `placed` is the tick at which it was placed, from which VALVE DONE gives its time (R138). -/
structure Cmd where
  station : Nat
  slot : Nat
  action : Action
  target : Option Nat
  cls : CmdClass
  origin : Origin
  port : Fin 4
  sent : Bool
  acked : Bool
  deadline : Tick
  placed : Tick
  deriving DecidableEq, Repr

/-- A held entry (R126). -/
structure Held where
  trap : Nat
  station : Nat
  slot : Nat
  action : Action
  target : Option Nat
  cause : HoldCause
  deriving DecidableEq, Repr

/-- A valve record of the command table (R126). -/
structure ValveRec where
  position : Option Nat
  state : Option ValveState
  time : Option Stamp
  deriving DecidableEq, Repr

/-- The command table (R126): outstanding commands (the SENT ones in order of sending), held entries oldest first, valve records. -/
structure CmdTable where
  cmds : List Cmd
  held : List Held
  valves : Table ValveRec
  deriving DecidableEq, Repr

/-! ## Section ports (chapter 8) -/

/-- Where a transaction's attempt stands (R147, R149): being transmitted, awaiting its answer until the deadline, or failed
with a retry due. -/
inductive Phase
  | sending
  | awaiting (deadline : Tick)
  | retryDue
  deriving DecidableEq, Repr

/-- The in-flight transaction of a port (R141). `slot` is the valve of a COMMAND, `ordinary` marks an ordinary poll (R145). -/
structure Txn where
  sentKind : FrameSent
  station : Nat
  slot : Option Nat
  frame : SecFrame
  ordinary : Bool
  attempt : Nat
  parts : List (List Byte)
  partCount : Nat
  phase : Phase
  deriving DecidableEq, Repr

/-- The last-failure record (R155). -/
structure Failure where
  station : Nat
  kind : FailKind
  frame : FrameSent
  attempt : Nat
  time : Stamp
  deriving DecidableEq, Repr

/-- A section port (R141); roster and timing are read from the committed copy. `gap` is the tick at which the poll gap in
progress has run, or none when there is no gap to run (R145). -/
structure PortRec where
  queue : List (Nat × Nat)
  txn : Option Txn
  cycle : Nat
  watchDue : Bool
  watchPtr : Option Nat
  lastFailure : Option Failure
  gap : Option Tick
  deriving DecidableEq, Repr

/-- Liveness record of one station (R144). -/
structure StationLive where
  live : Liveness
  lastGood : Option Stamp
  declaredSilent : Option Stamp
  deriving DecidableEq, Repr

/-- The section ports and the station liveness records (R141, R144). -/
structure Ports where
  port : Four PortRec
  stations : Table StationLive
  deriving DecidableEq, Repr

/-! ## Run records (chapter 9) -/

/-- A run record entry (R161). -/
structure Entry where
  kind : EntryKind
  point : Point
  time : Stamp
  P : Option Nat
  M : Option Nat
  slip : Nat
  deriving DecidableEq, Repr

/-- Where the pig of a record is (R160). -/
inductive Location
  | inLine
  | inTrap (trap : Nat)
  | completed
  deriving DecidableEq, Repr

/-- A run record (R160). `serial` is the model's own: it tells apart records of one identity (R166). -/
structure RunRec where
  serial : Nat
  id : Nat
  tag : Nat
  kind : PigKind
  opened : Stamp
  location : Location
  outcome : Option Result
  closed : Option Stamp
  entries : List Entry
  truncated : Bool
  dropped : Nat
  deriving DecidableEq, Repr

/-- The record cursor (R166); `pos` is the index, from 0, of the next entry to return. -/
inductive Cursor
  | closed
  | opened (serial pos : Nat)
  | stranded (id pos : Nat)
  deriving DecidableEq, Repr

/-- The run records (R160, R163): open records, the completed-run list oldest first, the cursor. -/
structure Records where
  active : List RunRec
  completed : List RunRec
  cursor : Cursor
  nextSerial : Nat
  deriving DecidableEq, Repr

/-! ## The supervisor link (chapter 10) -/

/-- Supply and reset input (R179). -/
structure Power where
  supplied : Bool
  resetInput : ResetInput
  deriving DecidableEq, Repr

/-- The two clocks (R174); `sub` counts the milliseconds of the second in progress. -/
structure Clocks where
  tick : Tick
  secs : Secs
  set : Bool
  sub : Nat
  deriving DecidableEq, Repr

/-- The link (R168, R169, R172, R176, R180): `rx` holds the bytes of a frame arriving in part, `restartPending` that the
RESTART reply has been formed and the WARM restart has not yet been performed. -/
structure Link where
  mode : Mode
  rx : List Byte
  buffer : List Frame
  notices : List Notice
  overflow : Nat
  badFrames : Nat
  fullBuffers : Nat
  restartPending : Bool
  deriving DecidableEq, Repr

/-- A frame that a section port has put on its line: transmitted whole, or cut off because its transaction was abandoned while the port
was transmitting it (R141, R147). -/
structure LineFrame where
  port : Fin 4
  frame : SecFrame
  whole : Bool
  deriving DecidableEq, Repr

/-- What the part has sent since the last COLD restart: replies in the order formed, section-line frames as their transmission ended
(the model's own record of the output lines, log entry 4). -/
structure Outputs where
  replies : List Reply
  lines : List LineFrame
  deriving DecidableEq, Repr

end Sys2Proof.Machine
end

