-- ==== Sys2Proof/Machine/State.lean ====
section
/-! DEFINITION. The state of the PRC-416, all of it, as plain data; the reasons a step could stop (none does); the machine
right after reset. -/

namespace Sys2Proof.Machine

/-- Everything the part holds, block by block (spec/00_scope.md, "How the part is built"). -/
structure Part where
  power : Power
  clocks : Clocks
  link : Link
  lineMap : LineMap
  meters : MeterUnit
  run : RunTable
  attr : Attribution
  traps : Table TrapRec
  cmds : CmdTable
  ports : Ports
  records : Records
  out : Outputs
  deriving DecidableEq, Repr

/-- The machine: the part, and the queue of the commands that wait, first in, first out. -/
structure State where
  part : Part
  pending : List Instr
  deriving DecidableEq, Repr

/-- The reasons a command stops with a fault: none. The manual gives every command an effect, so no meaning faults (safe). -/
inductive Fault
  deriving DecidableEq, Repr

/-- The reasons a command is refused. -/
inductive Refusal where
  /-- Raised by `exec` alone, for a row that has no meaning yet; every row has one, so nothing raises it (safe). -/
  | notModelled (mnemonic : String)
  deriving DecidableEq, Repr

/-- The default actuator table: ⌊c × 100 / 15⌋ for code c (R7). -/
def defaultActuator : List Nat := (List.range 16).map fun c => c * 100 / 15

/-- The tuning record's defaults (R8). -/
def defaultTuning : Tuning :=
  { smin := 5000, u0 := 2000, q := 150, umax := 400000, ks := 150000, fmin := 50000,
    slipScraper := 300, slipBrush := 500, slipCup := 250, slipFoam := 1200 }

/-- A roster record never written (R142). -/
def defaultRoster : Roster := { stations := [], replyTimeout := 400, retryLimit := 3, pollGap := 50 }

/-- The empty map (R9). -/
def emptyMap : MapCopy :=
  { segments := [], stations := [], sections := [], meters := [], traps := [], valves := [],
    actuators := Four.all defaultActuator, tuning := defaultTuning, rosters := Four.all defaultRoster }

/-- A section port after a COLD restart (R141). -/
def coldPort : PortRec :=
  { queue := [], txn := none, cycle := 0, watchDue := false, watchPtr := none, lastFailure := none, gap := none }

/-- The part after a COLD restart that finds neither bank of the stored configuration passing its check (R24, R179): the
empty map, commit count 0, mode SETUP. -/
def resetPart : Part :=
  { power := { supplied := true, resetInput := .released }
    clocks := { tick := 0, secs := 0, set := false, sub := 0 }
    link := { mode := .setup, rx := [], buffer := [], notices := [], overflow := 0, badFrames := 0, fullBuffers := 0,
              restartPending := false }
    lineMap := { working := emptyMap, committed := emptyMap, commitCount := 0, checksum := 0, storedCount := 0,
                 bank0 := none, bank1 := none, current := none }
    meters := { meters := [], sections := [] }
    run := { pigs := [], reservations := [], nextSeq := 0 }
    attr := { stations := [], receivers := [], running := [] }
    traps := []
    cmds := { cmds := [], held := [], valves := [] }
    ports := { port := Four.all coldPort, stations := [] }
    records := { active := [], completed := [], cursor := .closed, nextSerial := 0 }
    out := { replies := [], lines := [] } }

/-- The machine right after reset: supply applied to a module whose stored configuration is empty (log entry 5), and no
command waiting. -/
def State.reset : State := { part := resetPart, pending := [] }

end Sys2Proof.Machine
end

