-- ==== Sys2Proof/Machine/Ops.lean ====
section
/-! DEFINITION. The named operations over the part's holdings: keyed tables, the clocks, the notice queue and the alert
output, replies, and the run records' entries. -/

namespace Sys2Proof.Machine

/-! ## Keyed tables -/

/-- The record under a key. -/
def Table.get {α : Type} : Table α → Nat → Option α
  | [], _ => none
  | (k, v) :: rest, n => if k = n then some v else Table.get rest n

/-- The table with the record under a key created or replaced; keys stay strictly rising. -/
def Table.put {α : Type} : Table α → Nat → α → Table α
  | [], n, x => [(n, x)]
  | (k, v) :: rest, n, x =>
    if n < k then (n, x) :: (k, v) :: rest
    else if n = k then (n, x) :: rest
    else (k, v) :: Table.put rest n x

/-- The table without the record under a key. -/
def Table.erase {α : Type} (t : Table α) (n : Nat) : Table α := t.filter fun e => e.1 != n

/-- The table with the record under a key, if present, changed by a function. -/
def Table.modify {α : Type} (t : Table α) (n : Nat) (f : α → α) : Table α :=
  t.map fun e => if e.1 = n then (e.1, f e.2) else e

/-- The table with every record changed by a function of its key and value. -/
def Table.mapAll {α β : Type} (t : Table α) (f : Nat → α → β) : Table β := t.map fun e => (e.1, f e.1 e.2)

/-- The lowest-numbered record at or above a key (R12). -/
def Table.atOrAbove {α : Type} (t : Table α) (n : Nat) : Option (Nat × α) := t.find? fun e => n ≤ e.1

/-- Whether a record stands under a key. -/
def Table.has {α : Type} (t : Table α) (n : Nat) : Bool := (Table.get t n).isSome

/-- The keys in rising order. -/
def Table.keys {α : Type} (t : Table α) : List Nat := t.map Prod.fst

/-! ## Clocks -/

/-- A deadline has expired when (tick − deadline) mod 2^32 is below 2^31 (R174). -/
def expired (now deadline : Tick) : Bool := (now - deadline).toNat < 2147483648

/-- `n` milliseconds pass: both clocks run on and wrap (R174). -/
def Clocks.elapse (c : Clocks) (n : Nat) : Clocks :=
  { c with
    tick := c.tick + BitVec.ofNat 32 n
    secs := c.secs + BitVec.ofNat 32 ((c.sub + n) / 1000)
    sub := (c.sub + n) % 1000 }

/-- Time passes until a deadline has expired; no time passes when it already has (log entry 2). -/
def Clocks.elapseTo (c : Clocks) (deadline : Tick) : Clocks :=
  if expired c.tick deadline then c else c.elapse (deadline - c.tick).toNat

/-- The part with its clocks run on to a deadline (log entry 2). -/
def Part.elapseTo (p : Part) (deadline : Tick) : Part := { p with clocks := p.clocks.elapseTo deadline }

/-- The tick a number of milliseconds from now. -/
def Part.after (p : Part) (ms : Nat) : Tick := p.clocks.tick + BitVec.ofNat 32 ms

/-- The present time on the seconds clock with its set indication (R174). -/
def Part.stamp (p : Part) : Stamp := { secs := p.clocks.secs, set := p.clocks.set }

/-! ## Notices and replies -/

/-- The capacity of the notice queue (R172). -/
def noticeCapacity : Nat := 64

/-- Queue a notice: it is appended, or, when the queue holds 64, dropped and counted (R172). -/
def Link.queue (l : Link) (n : Notice) : Link :=
  if l.notices.length < noticeCapacity then { l with notices := l.notices ++ [n] }
  else { l with overflow := satAdd max16 l.overflow 1 }

/-- Queue a notice of a kind with the fields its rule fills, stamped with the present time (R172). -/
def Part.notify (p : Part) (kind : NoticeKind) (pig station trap : Option Nat) (detail : List Field) : Part :=
  { p with link := p.link.queue { kind, time := p.stamp, pig, station, trap, detail } }

/-- Whether the part runs: supplied, and not held stopped by the reset input (R179). -/
def Part.running (p : Part) : Bool := p.power.supplied && p.power.resetInput != .held

/-- The alert output: high while the queue holds a notice and the reset input does not hold the part stopped (R172). -/
def Part.alertHigh (p : Part) : Bool := !p.link.notices.isEmpty && p.running

/-- Form the reply to a request frame (R170). -/
def Part.answer (p : Part) (f : Frame) (code : ReplyCode) (fields : List Field) : Part :=
  { p with out := { p.out with replies := p.out.replies ++ [{ kind := f.kind, tag := f.tag, code, fields }] } }

/-- A one-byte field. -/
def u8 (v : Nat) : Field := .val 1 v
/-- A two-byte field. -/
def u16 (v : Nat) : Field := .val 2 v
/-- A four-byte field. -/
def u32 (v : Nat) : Field := .val 4 v
/-- An eight-byte field. -/
def u64 (v : Nat) : Field := .val 8 v
/-- A yes or no, sent as 1 or 0. -/
def flag (b : Bool) : Field := .val 1 b.toNat
/-- A set of flags, one byte per eight, the first in bit 0 (R182). -/
def flagSet : List Bool → Nat
  | [] => 0
  | b :: rest => b.toNat + 2 * flagSet rest
/-- A time stamp: four bytes of seconds and the set indication. -/
def stampFields (s : Stamp) : List Field := [u32 s.secs.toNat, flag s.set]

/-! ## Run records -/

/-- The number of entries a record holds (R160). -/
def entryCapacity : Nat := 48

/-- Append an entry to a record, or drop and count it when the record holds 48 (R162). -/
def RunRec.append (r : RunRec) (e : Entry) : RunRec :=
  if r.entries.length < entryCapacity then { r with entries := r.entries ++ [e] }
  else { r with truncated := true, dropped := satAdd max16 r.dropped 1 }

/-- The records with the open record of an identity changed. -/
def Records.modifyOpen (rs : Records) (id : Nat) (f : RunRec → RunRec) : Records :=
  { rs with active := rs.active.map fun r => if r.id = id then f r else r }

/-- Make an entry in a pig's open record, at the present time (R161). -/
def Part.entry (p : Part) (id : Nat) (kind : EntryKind) (point : Point) (P M : Option Nat) (slip : Nat) : Part :=
  { p with records := p.records.modifyOpen id fun r => r.append { kind, point, time := p.stamp, P, M, slip } }

/-- Open a record with its first entry still to come (R160). -/
def Part.openRecord (p : Part) (id tag : Nat) (kind : PigKind) (location : Location) : Part :=
  { p with records :=
    { p.records with
      active := p.records.active ++
        [{ serial := p.records.nextSerial, id, tag, kind, opened := p.stamp, location, outcome := none, closed := none,
           entries := [], truncated := false, dropped := 0 }]
      nextSerial := p.records.nextSerial + 1 } }

/-- The location of a pig's open record follows the pig (R160). -/
def Part.locate (p : Part) (id : Nat) (location : Location) : Part :=
  { p with records := p.records.modifyOpen id fun r => { r with location } }

/-- The number of records the completed-run list holds (R163). -/
def completedCapacity : Nat := 8

/-- A cursor open on a record that is dropped becomes STRANDED (R166). -/
def Cursor.strand (c : Cursor) (dropped : RunRec) : Cursor :=
  match c with
  | .opened serial pos => if serial = dropped.serial then .stranded dropped.id pos else c
  | _ => c

/-- A record joins the completed-run list, dropping the oldest when the list is full (R163, R166). -/
def Records.join (rs : Records) (r : RunRec) : Records :=
  if rs.completed.length < completedCapacity then { rs with completed := rs.completed ++ [r] }
  else
    match rs.completed with
    | [] => { rs with completed := [r] }
    | old :: rest => { rs with completed := rest ++ [r], cursor := rs.cursor.strand old }

/-- Complete a pig's record with an outcome (R163). -/
def Part.complete (p : Part) (id : Nat) (outcome : Result) : Part :=
  match p.records.active.find? fun r => r.id = id with
  | none => p
  | some r =>
    let rest := { p.records with active := p.records.active.filter fun x => x.id != id }
    { p with records := rest.join { r with location := .completed, outcome := some outcome, closed := some p.stamp } }

end Sys2Proof.Machine
end

