-- ==== Sys2Proof/Machine/Codes.lean ====
section
/-! DEFINITION. The code values of Appendix A (R181, R182, R184), and the readings of coded request fields. -/

namespace Sys2Proof.Machine

/-- Reply codes (R184). -/
def ReplyCode.code : ReplyCode → Nat
  | .ok => 0x00
  | .unknownRequest => 0x01
  | .badLength => 0x02
  | .mode => 0x03
  | .range => 0x04
  | .noSuch => 0x05
  | .full => 0x06
  | .duplicate => 0x07
  | .order => 0x10
  | .tooClose => 0x11
  | .pigNear => 0x12
  | .valveBusy => 0x20
  | .trapBusy => 0x21
  | .portBusy => 0x22
  | .uncommitted => 0x30
  | .invalidMap => 0x31
  | .notEmpty => 0x32
  | .noCursor => 0x40
  | .gone => 0x41

/-- Notice kinds (R184). -/
def NoticeKind.code : NoticeKind → Nat
  | .meterNotInMap => 0x01
  | .meterDiscontinuity => 0x02
  | .sectionNoMeter => 0x03
  | .sectionMeterRestored => 0x04
  | .passage => 0x10
  | .pigMissed => 0x11
  | .strayPassage => 0x12
  | .unexpectedTrip => 0x13
  | .tagReadsLost => 0x14
  | .detectorDiscontinuity => 0x15
  | .pigOverdue => 0x20
  | .pigStuckSuspect => 0x21
  | .pigBlockedAtReceiver => 0x22
  | .pigLaunched => 0x30
  | .pigReceived => 0x31
  | .receiverArmed => 0x32
  | .sequenceFault => 0x33
  | .sequenceDone => 0x34
  | .trapNotInMap => 0x35
  | .valveDone => 0x40
  | .valveFailed => 0x41
  | .forcedCloseNearPig => 0x42
  | .valveNotInMap => 0x44
  | .stationSilent => 0x50
  | .stationRecovered => 0x51
  | .restarted => 0x60

/-- Run record entry kinds (R184). -/
def EntryKind.code : EntryKind → Nat
  | .loaded => 0x01
  | .launched => 0x02
  | .launchedDuringAbort => 0x03
  | .confirmedByTag => 0x04
  | .confirmedByTrip => 0x05
  | .unverified => 0x06
  | .missed => 0x07
  | .passedUnobserved => 0x08
  | .lateConfirmed => 0x09
  | .passedByInference => 0x0A
  | .passedByFix => 0x0B
  | .declared => 0x0C
  | .fixed => 0x0D
  | .received => 0x0E
  | .transferred => 0x0F
  | .overdue => 0x10
  | .stuckSuspect => 0x11

/-- INVALID MAP reasons (R184). -/
def MapReason.code : MapReason → Nat
  | .gap => 1
  | .fillRange => 2
  | .length => 3
  | .volumeRange => 4
  | .stationOrder => 5
  | .trapPlacement => 6
  | .sectionMeter => 7
  | .pairing => 8
  | .valveRole => 9
  | .tuning => 10
  | .roster => 11

/-- Command and fault reasons (R184). -/
def Reason.code : Reason → Nat
  | .valveTimeout => 1
  | .valveFault => 2
  | .valveRejected => 3
  | .linkFailed => 4
  | .linkReset => 5
  | .superseded => 6
  | .pigNear => 7
  | .portBusy => 8
  | .equaliseTimeout => 9
  | .noLaunch => 10
  | .interlockTimeout => 11
  | .separationTimeout => 12
  | .valveOverridden => 13

/-- Outcomes (R184). -/
def Result.code : Result → Nat
  | .received => 0
  | .unloaded => 1
  | .writtenOff => 2
  | .launched => 3
  | .noPig => 4
  | .aborted => 5

/-- PASSAGE outcomes (R184). -/
def PassageOutcome.code : PassageOutcome → Nat
  | .confirmedByTag => 0
  | .confirmedByTrip => 1
  | .unverified => 2
  | .lateConfirmed => 3

/-- The record entry of a passage outcome (R83, R87). -/
def PassageOutcome.entry : PassageOutcome → EntryKind
  | .confirmedByTag => .confirmedByTag
  | .confirmedByTrip => .confirmedByTrip
  | .unverified => .unverified
  | .lateConfirmed => .lateConfirmed

/-- Trap states and steps (R184). -/
def TrapState.code : TrapState → Nat
  | .empty => 0
  | .loaded => 1
  | .equalising => 2
  | .opening => 3
  | .driving => 4
  | .diverting => 5
  | .waiting => 6
  | .restoring => 7
  | .holding => 8
  | .fault => 9
  | .suspended => 10

/-- Hold reasons (R184). -/
def HoldReason.code : HoldReason → Nat
  | .none => 0
  | .separation => 1
  | .interlock => 2
  | .portSpace => 3

/-- Step-command conditions (R184). -/
def StepCond.code : StepCond → Nat
  | .notIssued => 0
  | .held => 1
  | .placed => 2
  | .complete => 3
  | .failed => 4

/-- Meter health (R184). -/
def Health.code : Health → Nat
  | .unbaselined => 0
  | .healthy => 1
  | .suspect => 2
  | .silent => 3

/-- Liveness (R184). -/
def Liveness.code : Liveness → Nat
  | .unknown => 0
  | .alive => 1
  | .silent => 2

/-- Modes start from 1 (R181). -/
def Mode.code : Mode → Nat
  | .setup => 1
  | .tracking => 2
  | .frozen => 3

/-- The mode a code names. -/
def Mode.ofCode : Nat → Option Mode
  | 1 => some .setup
  | 2 => some .tracking
  | 3 => some .frozen
  | _ => none

/-- Pig kinds start from 1 (R181). -/
def PigKind.code : PigKind → Nat
  | .scraper => 1
  | .brush => 2
  | .cup => 3
  | .foam => 4

/-- The pig kind a code names. -/
def PigKind.ofCode : Nat → Option PigKind
  | 1 => some .scraper
  | 2 => some .brush
  | 3 => some .cup
  | 4 => some .foam
  | _ => none

/-- Actions start from 1 (R181). -/
def Action.code : Action → Nat
  | .opening => 1
  | .closing => 2
  | .throttle => 3

/-- The action a code names. -/
def Action.ofCode : Nat → Option Action
  | 1 => some .opening
  | 2 => some .closing
  | 3 => some .throttle
  | _ => none

/-- Command classes (R181). -/
def CmdClass.code : CmdClass → Nat
  | .normal => 0
  | .esd => 1

/-- The class a code names. -/
def CmdClass.ofCode : Nat → Option CmdClass
  | 0 => some .normal
  | 1 => some .esd
  | _ => none

/-- Detector kinds (R181). -/
def Detector.code : Detector → Nat
  | .none => 0
  | .trip => 1
  | .tag => 2
  | .both => 3

/-- The detector kind a code names. -/
def Detector.ofCode : Nat → Option Detector
  | 0 => some .none
  | 1 => some .trip
  | 2 => some .tag
  | 3 => some .both
  | _ => none

/-- Trap roles (R181). -/
def TrapRole.code : TrapRole → Nat
  | .launcher => 0
  | .receiver => 1

/-- The trap role a code names. -/
def TrapRole.ofCode : Nat → Option TrapRole
  | 0 => some .launcher
  | 1 => some .receiver
  | _ => none

/-- Valve roles (R181). -/
def ValveRole.code : ValveRole → Nat
  | .mainline => 0
  | .barrel => 1
  | .flow => 2
  | .equalise => 3

/-- The valve role a code names. -/
def ValveRole.ofCode : Nat → Option ValveRole
  | 0 => some .mainline
  | 1 => some .barrel
  | 2 => some .flow
  | 3 => some .equalise
  | _ => none

/-- Valve states (R183). -/
def ValveState.code : ValveState → Nat
  | .remote => 0
  | .localCtl => 1
  | .fault => 2

/-- The valve state a code names; a value above 2 names none (R183). -/
def ValveState.ofCode : Nat → Option ValveState
  | 0 => some .remote
  | 1 => some .localCtl
  | 2 => some .fault
  | _ => none

/-- The kind of a transaction and of the frame sent at a failure, in the order R155 names them (R181). That POLL is 0 and COMMAND 1, and not
the frame kinds 01h and 02h of R183, is the model's choice (log entry 58). -/
def FrameSent.code : FrameSent → Nat
  | .poll => 0
  | .command => 1

/-- Failure kinds in the order R155 lists them (R181). -/
def FailKind.code : FailKind → Nat
  | .noReply => 0
  | .badFrame => 1
  | .partMissing => 2
  | .nak => 3

/-- Held causes in the order R126 lists them (R181). -/
def HoldCause.code : HoldCause → Nat
  | .interlock => 0
  | .portSpace => 1
  | .tableSpace => 2

/-- A yes or no, on or off, field of a request: 1 or 0 (A.1). -/
def boolOfCode : Nat → Option Bool
  | 0 => some false
  | 1 => some true
  | _ => none

/-- A point as point kind and index, as A.1 lays it out in a run record entry: none 0, station 1, trap 2. The fix points of the run
table's replies are sent in the same two bytes, and the point none has index 0 (log entry 16). -/
def Point.fields : Point → List Field
  | .none => [u8 0, u8 0]
  | .station n => [u8 1, u8 n]
  | .trap n => [u8 2, u8 n]

/-- A location and its trap index (A.1): IN LINE 0, IN TRAP 1, COMPLETED 2. -/
def Location.fields : Location → List Field
  | .inLine => [u8 0, .opt 1 none]
  | .inTrap t => [u8 1, .opt 1 (some t)]
  | .completed => [u8 2, .opt 1 none]

/-- The width of a field in bytes. -/
def Field.size : Field → Nat
  | .val n _ => n
  | .opt n _ => n
  | .pres n _ => n + 1

/-- The bytes that the fields take. -/
def fieldsSize (fs : List Field) : Nat := (fs.map Field.size).sum

/-- A notice record as its 24 bytes' fields (A.1): kind, present flags, pig, time, station, trap, detail filled to 14 bytes. An absent
pig, whose range reaches all ones, is sent as 0 behind its present flag, an absent station or trap as all ones (R182). -/
def Notice.fields (n : Notice) : List Field :=
  [u8 n.kind.code,
   u8 (flagSet [n.pig.isSome, n.station.isSome, n.trap.isSome, n.time.set]),
   u16 (n.pig.getD 0), u32 n.time.secs.toNat, .opt 1 n.station, .opt 1 n.trap]
  ++ n.detail ++ [.val (14 - fieldsSize n.detail) 0]

/-- A run record entry as its 18 bytes' fields (A.1). An absent P is sent as all ones; an absent M, whose range reaches all ones, as 0
behind its flag: the model's choice, R182's criterion and its list being at odds for M (log entry 38). -/
def Entry.fields (e : Entry) : List Field :=
  [u8 e.kind.code] ++ e.point.fields ++
  [u8 (flagSet [e.time.set, e.P.isSome, e.M.isSome]), u32 e.time.secs.toNat, .opt 4 e.P, u32 (e.M.getD 0), u16 e.slip]

end Sys2Proof.Machine
end

