-- ==== Sys2Proof/Machine/Frames.lean ====
section
/-! DEFINITION. Frames as bytes (Appendix A): the two CRCs, little-endian fields, the hunt for supervisor frames and the input
buffer (R168, R169), the section-line frame check and the report body (R183). -/

namespace Sys2Proof.Machine

/-! ## Bytes and CRCs -/

/-- A number in `n` bytes, least significant byte first (R181). A number that does not fit gives its low bytes: of the fields sent, only
the lead of R110 can be so large (log entry 38). -/
def leBytes : Nat → Nat → List Byte
  | 0, _ => []
  | n + 1, v => BitVec.ofNat 8 v :: leBytes n (v / 256)

/-- The number that bytes spell, least significant byte first (R181). -/
def leNat : List Byte → Nat
  | [] => 0
  | b :: rest => b.toNat + 256 * leNat rest

/-- One bit of the CRC-16 division, polynomial 1021h, most significant bit first (R168). -/
def crc16Bit (c : Nat) : Nat :=
  if c / 32768 % 2 = 1 then (c * 2 ^^^ 0x1021) % 65536 else c * 2 % 65536

/-- One byte of the CRC-16 (R168). -/
def crc16Byte (c : Nat) (b : Byte) : Nat :=
  crc16Bit (crc16Bit (crc16Bit (crc16Bit (crc16Bit (crc16Bit (crc16Bit (crc16Bit (c ^^^ (b.toNat * 256)))))))))

/-- The CRC-16 of a byte sequence: initial value FFFFh, no final inversion (R168). -/
def crc16 (bytes : List Byte) : Nat := bytes.foldl crc16Byte 0xFFFF

/-- One bit of the CRC-32 division, reflected polynomial EDB88320h (R23). -/
def crc32Bit (c : Nat) : Nat := if c % 2 = 1 then (c / 2) ^^^ 0xEDB88320 else c / 2

/-- One byte of the CRC-32 (R23). -/
def crc32Byte (c : Nat) (b : Byte) : Nat :=
  crc32Bit (crc32Bit (crc32Bit (crc32Bit (crc32Bit (crc32Bit (crc32Bit (crc32Bit (c ^^^ b.toNat))))))))

/-- The CRC-32 of a byte sequence: initial value FFFFFFFFh, final inversion (R23, R185). -/
def crc32 (bytes : List Byte) : Nat := bytes.foldl crc32Byte 0xFFFFFFFF ^^^ 0xFFFFFFFF

/-! ## Replies as bytes -/

/-- The bytes of a field: an absent optional field is all ones; a presence byte precedes a field whose range reaches all
ones (R182). -/
def Field.bytes : Field → List Byte
  | .val n v => leBytes n v
  | .opt n (some v) => leBytes n v
  | .opt n none => List.replicate n 0xFF
  | .pres n (some v) => 1 :: leBytes n v
  | .pres n none => List.replicate (n + 1) 0

/-- The bytes of the fields in order. -/
def fieldsBytes (fs : List Field) : List Byte := fs.flatMap Field.bytes

/-- A supervisor frame around a kind, a tag and a body: start byte, length, kind, tag, body, CRC (R182). -/
def supervisorFrame (kind tag : Byte) (body : List Byte) : List Byte :=
  let covered := leBytes 2 body.length ++ [kind, tag] ++ body
  0xA5 :: covered ++ leBytes 2 (crc16 covered)

/-- A request frame as the host sends it. -/
def Frame.bytes (f : Frame) : List Byte := supervisorFrame f.kind f.tag f.body

/-- A reply as the part sends it: the request's kind with 80h added, its tag, the code and the result fields (R182). That the sum is taken
modulo 256 for an unknown kind of 80h or above is the model's choice (log entry 52). -/
def Reply.bytes (r : Reply) : List Byte :=
  supervisorFrame (r.kind + 0x80) r.tag (BitVec.ofNat 8 r.code.code :: fieldsBytes r.fields)

/-! ## Taking supervisor frames (R168, R169) -/

/-- The number of frames the input buffer holds (R169). -/
def bufferCapacity : Nat := 4

/-- A complete frame goes to the input buffer, or is discarded and counted when the buffer holds 4 (R169). -/
def Link.store (l : Link) (f : Frame) : Link :=
  if l.buffer.length < bufferCapacity then { l with buffer := l.buffer ++ [f] }
  else { l with fullBuffers := satAdd max16 l.fullBuffers 1 }

/-- A frame in progress is abandoned: it adds 1 to the bad-frame count (R168). -/
def Link.abandon (l : Link) : Link := { l with badFrames := satAdd max16 l.badFrames 1 }

/-- What the bytes after a start byte spell: not yet a whole frame, a bad frame, or a frame and the bytes after it. -/
inductive FrameRead
  | more
  | bad
  | frame (f : Frame) (rest : List Byte)
  deriving DecidableEq, Repr

/-- Read the fields that follow a start byte (R168): a length above 512 is bad as soon as it has been read. -/
def readFrame : List Byte → FrameRead
  | l0 :: l1 :: tail =>
    let n := leNat [l0, l1]
    if 512 < n then .bad
    else
      match tail with
      | kind :: tag :: more =>
        if more.length < n + 2 then .more
        else
          let body := more.take n
          if leNat ((more.drop n).take 2) = crc16 (l0 :: l1 :: kind :: tag :: body) then
            .frame { kind, tag, body } (more.drop (n + 2))
          else .bad
      | _ => .more
  | _ => .more

/-- Hunt for frames in the bytes received, resuming after an abandoned frame with the byte that follows its start byte
(R168). `fuel` is at least the number of bytes. -/
def Link.hunt : Nat → List Byte → Link → Link
  | 0, bytes, l => { l with rx := bytes }
  | _, [], l => { l with rx := [] }
  | fuel + 1, b :: rest, l =>
    if b = 0xA5 then
      match readFrame rest with
      | .more => { l with rx := b :: rest }
      | .bad => Link.hunt fuel rest l.abandon
      | .frame f after => Link.hunt fuel after (l.store f)
    else Link.hunt fuel rest l

/-- Bytes arrive on the supervisor line (R168). -/
def Link.receive (l : Link) (bytes : List Byte) : Link :=
  Link.hunt ((l.rx ++ bytes).length + 1) (l.rx ++ bytes) l

/-- No byte has come for 5 ms: the frame in progress is abandoned and the hunt resumes in the bytes after its start byte; a
frame in progress found there has waited as long, and is abandoned in turn (R168, log entry 11). -/
def Link.byteTimeout : Nat → Link → Link
  | 0, l => l
  | fuel + 1, l =>
    match l.rx with
    | [] => l
    | _ :: rest => Link.byteTimeout fuel (Link.hunt (rest.length + 1) rest l.abandon)

/-! ## Section-line frames (R183) -/

/-- Kind bytes of the section line. -/
def kindPoll : Byte := 0x01
/-- COMMAND. -/
def kindCommand : Byte := 0x02
/-- REPORT. -/
def kindReport : Byte := 0x11
/-- ACK. -/
def kindAck : Byte := 0x12
/-- NAK. -/
def kindNak : Byte := 0x13

/-- The bytes of a section-line frame. -/
def SecFrame.bytes (f : SecFrame) : List Byte :=
  let covered := [BitVec.ofNat 8 f.body.length, f.station, f.kind, f.part] ++ f.body
  0x3C :: covered ++ leBytes 2 (crc16 covered)

/-- The part number and part count that a frame's part byte gives. -/
def SecFrame.partNumber (f : SecFrame) : Nat := f.part.toNat / 16
/-- The part count. -/
def SecFrame.partCount (f : SecFrame) : Nat := f.part.toNat % 16

/-- The part byte reads 11h; a REPORT may instead have a part count of 2 or 3 and a part number from 1 to that count. -/
def partByteOk (kind part : Byte) : Bool :=
  part == 0x11 ||
  (kind == kindReport && (part.toNat % 16 == 2 || part.toNat % 16 == 3) &&
    1 ≤ part.toNat / 16 && part.toNat / 16 ≤ part.toNat % 16)

/-- The frame check (R183): a whole frame, right CRC, one of the five kinds, a part byte that fits. -/
def checkFrame : List Byte → Option SecFrame
  | s :: n :: station :: kind :: part :: rest =>
    if s = 0x3C ∧ n.toNat ≤ 200 ∧ rest.length = n.toNat + 2 ∧
        leNat (rest.drop n.toNat) = crc16 (n :: station :: kind :: part :: rest.take n.toNat) ∧
        kind ∈ [kindPoll, kindCommand, kindReport, kindAck, kindNak] ∧ partByteOk kind part = true then
      some { station, kind, part, body := rest.take n.toNat }
    else none
  | _ => none

/-- A POLL frame: an empty body (R183). -/
def pollFrame (station : Nat) : SecFrame := { station := BitVec.ofNat 8 station, kind := kindPoll, part := 0x11, body := [] }

/-- A COMMAND frame: slot, action and target, the target 0 but for THROTTLE (R183). -/
def commandFrame (c : Cmd) : SecFrame :=
  { station := BitVec.ofNat 8 c.station, kind := kindCommand, part := 0x11,
    body := [BitVec.ofNat 8 c.slot, BitVec.ofNat 8 c.action.code, BitVec.ofNat 8 (c.target.getD 0)] }

/-! ## Report bodies (R183) -/

/-- A valve entry of a report: slot, state, and the position byte as it came. -/
structure ValveEntry where
  slot : Nat
  state : ValveState
  raw : Nat
  deriving DecidableEq, Repr

/-- The parts that a report's joined body carries. -/
structure Report where
  detector : Option (Byte × Byte × List Nat)
  meters : Option (List (Nat × Nat))
  valves : Option (List ValveEntry)
  coded : Bool
  traps : Option (List (Nat × Byte × Bool))
  deriving DecidableEq, Repr

/-- Read `k` tag codes of 2 bytes. -/
def readTags : Nat → List Byte → Option (List Nat × List Byte)
  | 0, bs => some ([], bs)
  | k + 1, a :: b :: bs => (readTags k bs).map fun r => (leNat [a, b] :: r.1, r.2)
  | _ + 1, _ => none

/-- Read `k` meter entries: index and raw count in 4 bytes. -/
def readMeters : Nat → List Byte → Option (List (Nat × Nat) × List Byte)
  | 0, bs => some ([], bs)
  | k + 1, i :: a :: b :: c :: d :: bs => (readMeters k bs).map fun r => ((i.toNat, leNat [a, b, c, d]) :: r.1, r.2)
  | _ + 1, _ => none

/-- Read `k` valve entries: slot, state and position; a state above 2 fails. -/
def readValves : Nat → List Byte → Option (List ValveEntry × List Byte)
  | 0, bs => some ([], bs)
  | k + 1, s :: st :: pos :: bs =>
    match ValveState.ofCode st.toNat with
    | none => none
    | some state => (readValves k bs).map fun r => ({ slot := s.toNat, state, raw := pos.toNat } :: r.1, r.2)
  | _ + 1, _ => none

/-- Read `k` trap entries: index, barrel trip counter, and a flags byte whose bit 0 is equalised. -/
def readTraps : Nat → List Byte → Option (List (Nat × Byte × Bool) × List Byte)
  | 0, bs => some ([], bs)
  | k + 1, i :: c :: f :: bs => (readTraps k bs).map fun r => ((i.toNat, c, f.getLsbD 0) :: r.1, r.2)
  | _ + 1, _ => none

/-- The detector part: trip counter, tag-read counter, k of at most 4, then k codes. -/
def readDetector : List Byte → Option ((Byte × Byte × List Nat) × List Byte)
  | t :: g :: k :: bs => if k.toNat ≤ 4 then (readTags k.toNat bs).map fun r => ((t, g, r.1), r.2) else none
  | _ => none

/-- A part of entries preceded by their number. -/
def readCounted {α : Type} (rd : Nat → List Byte → Option (List α × List Byte)) : List Byte → Option (List α × List Byte)
  | n :: bs => rd n.toNat bs
  | [] => none

/-- A part read only when its bit of the present byte is set. -/
def readIf {α : Type} (b : Bool) (rd : List Byte → Option (α × List Byte)) (bs : List Byte) : Option (Option α × List Byte) :=
  if b then (rd bs).map fun r => (some r.1, r.2) else some (none, bs)

/-- The joined body of a report (R183): none when it does not end exactly where its last present part ends, when k is above
4, or when a state value is above 2. -/
def readReport : List Byte → Option Report
  | [] => none
  | present :: bs => do
    let (detector, bs) ← readIf (present.getLsbD 0) readDetector bs
    let (meters, bs) ← readIf (present.getLsbD 1) (readCounted readMeters) bs
    let (valves, bs) ← readIf (present.getLsbD 2) (readCounted readValves) bs
    let (traps, bs) ← readIf (present.getLsbD 3) (readCounted readTraps) bs
    if bs.isEmpty then some { detector, meters, valves, coded := present.getLsbD 4, traps } else none

end Sys2Proof.Machine
end

