-- ==== Sys2Proof/Machine/Geometry.lean ====
section
/-! DEFINITION. The values that follow from a copy's configured records (R18 to R22): segment volumes, coordinates,
chainages, sections, legs, fix points. They are computed where they are needed; the copy alone is held (log entry 30). -/

namespace Sys2Proof.Machine

/-! ## Coordinates and chainages (R18, R19) -/

/-- Vseg = ⌊len × fill / 1000⌋ (R18). -/
def Segment.volume (s : Segment) : Nat := s.length * s.fill / 1000

/-- A segment's downstream end. -/
def Segment.stop (s : Segment) : Nat := s.start + s.length

/-- The line total: the sum of all segment volumes (R18). -/
def MapCopy.lineTotal (m : MapCopy) : Nat := (m.segments.map fun e => e.2.volume).sum

/-- The line end: the end of the highest-numbered segment (R2). -/
def MapCopy.lineEnd (m : MapCopy) : Nat :=
  match m.segments.getLast? with
  | none => 0
  | some e => e.2.stop

/-- A segment with its index and start coordinate. -/
structure SegAt where
  index : Nat
  seg : Segment
  vstart : Nat
  deriving DecidableEq, Repr

/-- The segments with their start coordinates Vstart (R18). -/
def segStarts : Table Segment → Nat → List SegAt
  | [], _ => []
  | (i, s) :: rest, v => { index := i, seg := s, vstart := v } :: segStarts rest (v + s.volume)

/-- The segments of a copy with their start coordinates. -/
def MapCopy.segs (m : MapCopy) : List SegAt := segStarts m.segments 0

/-- The first element that passes, or else the last element when it passes the closing test. -/
def findOrLast (inside atEnd : SegAt → Bool) : List SegAt → Option SegAt
  | [] => none
  | [s] => if inside s || atEnd s then some s else none
  | s :: rest => if inside s then some s else findOrLast inside atEnd rest

/-- The segment that holds a chainage; the line end is held by the last segment (R18). -/
def MapCopy.segAtChainage (m : MapCopy) (c : Nat) : Option SegAt :=
  findOrLast (fun s => s.seg.start ≤ c && c < s.seg.stop) (fun s => c == s.seg.stop) m.segs

/-- The segment that holds a coordinate; the line total is held by the last segment (R19). -/
def MapCopy.segAtCoord (m : MapCopy) (P : Nat) : Option SegAt :=
  findOrLast (fun s => s.vstart ≤ P && P < s.vstart + s.seg.volume) (fun s => P == s.vstart + s.seg.volume) m.segs

/-- The coordinate of a chainage: Vstart_j + ⌊(c − cstart_j) × f_j / 1000⌋ (R18); none above the line end. -/
def MapCopy.coord (m : MapCopy) (c : Nat) : Option Nat :=
  (m.segAtChainage c).map fun s => s.vstart + (c - s.seg.start) * s.seg.fill / 1000

/-- The chainage of a coordinate: cstart_j + ⌊(P − Vstart_j) × 1000 / f_j⌋, capped at the segment's end (R19). -/
def MapCopy.chainageOf (m : MapCopy) (P : Nat) : Nat :=
  match m.segAtCoord P with
  | none => 0
  | some s => min (s.seg.start + (P - s.vstart) * 1000 / s.seg.fill) s.seg.stop

/-- A station's coordinate (R18). -/
def MapCopy.stationCoord (m : MapCopy) (n : Nat) : Nat :=
  match Table.get m.stations n with
  | none => 0
  | some s => (m.coord s.chainage).getD 0

/-- A trap's coordinate (R18). A trap whose chainage lies above the line end has none, and stands at 0 for the checks of lower-numbered
traps that read it (R16, log entry 39). -/
def MapCopy.trapCoord (m : MapCopy) (n : Nat) : Nat :=
  match Table.get m.traps n with
  | none => 0
  | some t => (m.coord t.chainage).getD 0

/-! ## Sections (R4, R20) -/

/-- The boundary stations in chainage order. -/
def MapCopy.boundaryStations (m : MapCopy) : List Nat := (m.stations.filter fun e => e.2.boundary).map Prod.fst

/-- The coordinates B_1, B_2, … of the boundary stations (R20). -/
def MapCopy.boundaries (m : MapCopy) : List Nat := m.boundaryStations.map m.stationCoord

/-- The section that holds a coordinate: section k begins strictly above B_k (R20). -/
def MapCopy.sectionOf (m : MapCopy) (P : Nat) : Nat := (m.boundaries.filter fun b => b < P).length

/-- The first coordinate of section k's range (R20). -/
def MapCopy.sectionLow (m : MapCopy) (k : Nat) : Nat :=
  if k = 0 then 0 else (m.boundaries.getD (k - 1) m.lineTotal) + 1

/-- The last coordinate of section k's range (R20). -/
def MapCopy.sectionHigh (m : MapCopy) (k : Nat) : Nat := m.boundaries.getD k m.lineTotal

/-! ## Legs and fix points (R21, R22) -/

/-- The traps of a role with their coordinates. -/
def MapCopy.trapsOf (m : MapCopy) (role : TrapRole) : List (Nat × Nat) :=
  (m.traps.filter fun e => e.2.role == role).map fun e => (e.1, m.trapCoord e.1)

/-- The entry with the smallest second component, the first of equals. -/
def nearest {α : Type} : List (α × Nat) → Option (α × Nat)
  | [] => none
  | e :: rest =>
    match nearest rest with
    | none => some e
    | some x => if x.2 < e.2 then some x else some e

/-- The leg-end receiver of a coordinate: smallest coordinate at or above it (R21). -/
def MapCopy.legEnd (m : MapCopy) (P : Nat) : Option (Nat × Nat) :=
  nearest ((m.trapsOf .receiver).filter fun e => P ≤ e.2)

/-- The leg-end receiver of a launcher: smallest coordinate greater than its own (R21). -/
def MapCopy.launcherEnd (m : MapCopy) (vl : Nat) : Option (Nat × Nat) :=
  nearest ((m.trapsOf .receiver).filter fun e => vl < e.2)

/-- The legs as launcher coordinate, receiver and receiver coordinate (R21). -/
def MapCopy.legs (m : MapCopy) : List (Nat × Nat × Nat) :=
  (m.trapsOf .launcher).filterMap fun l => (m.launcherEnd l.2).map fun r => (l.2, r.1, r.2)

/-- Whether a coordinate lies in a leg (R61). -/
def MapCopy.inLeg (m : MapCopy) (P : Nat) : Bool := m.legs.any fun l => l.1 ≤ P && P ≤ l.2.2

/-- Whether a coordinate lies in the barrel span of a relay pair (R21). -/
def MapCopy.inBarrelSpan (m : MapCopy) (P : Nat) : Bool :=
  m.traps.any fun e =>
    e.2.role == .receiver &&
      match e.2.pair with
      | none => false
      | some l => m.trapCoord e.1 < P && P < m.trapCoord l

/-- The detector kind suits a pig's tag: TRIP and BOTH suit every pig, TAG a tagged one (R22). -/
def Detector.suits (d : Detector) (tag : Nat) : Bool :=
  match d with
  | .trip | .both => true
  | .tag => tag != 0
  | .none => false

/-- Whether a station has an expected-passage list: a detector, and a coordinate strictly inside a leg (R69). -/
def MapCopy.hasList (m : MapCopy) (n : Nat) : Bool :=
  match Table.get m.stations n with
  | none => false
  | some s => s.detector != .none && m.legs.any fun l => l.1 < m.stationCoord n && m.stationCoord n < l.2.2

/-- The launcher coordinate of the longest leg that ends at a receiver (R131). -/
def MapCopy.longestLeg (m : MapCopy) (receiver : Nat) : Option Nat :=
  (nearest ((m.legs.filter fun l => l.2.1 == receiver).map fun l => ((), l.1))).map Prod.snd

/-- Whether station n is a fix point of the longest leg that ends at a receiver, for a pig of this tag (R22, R131). -/
def MapCopy.isFixPoint (m : MapCopy) (n tag receiver : Nat) : Bool :=
  match Table.get m.stations n, m.longestLeg receiver with
  | some s, some low => s.detector.suits tag && low < m.stationCoord n && m.stationCoord n < m.trapCoord receiver
  | _, _ => false

/-- The stations that a pig of this tag, at coordinate P with its leg ending at a receiver, is expected to pass: suited
detector, coordinate strictly between P and the receiver, in order of coordinate (R22, R70). -/
def MapCopy.stationsAhead (m : MapCopy) (tag P receiver : Nat) : List Nat :=
  (m.stations.filter fun e =>
    e.2.detector.suits tag && P < m.stationCoord e.1 && m.stationCoord e.1 < m.trapCoord receiver).map Prod.fst

/-- The nearest station at or upstream of a coordinate (R25). -/
def MapCopy.stationAtOrBefore (m : MapCopy) (P : Nat) : Option Nat :=
  ((m.stations.filter fun e => m.stationCoord e.1 ≤ P).map Prod.fst).getLast?

/-- The nearest station downstream of a coordinate (R25). -/
def MapCopy.stationAfter (m : MapCopy) (P : Nat) : Option Nat :=
  ((m.stations.filter fun e => P < m.stationCoord e.1).map Prod.fst).head?

/-! ## Equipment lookups -/

/-- The key of a valve in the map: station × 256 + slot, which orders valves by station and then slot (R13). -/
def valveKey (station slot : Nat) : Nat := station * 256 + slot

/-- The map's record of a valve. -/
def MapCopy.valve (m : MapCopy) (station slot : Nat) : Option Valve := Table.get m.valves (valveKey station slot)

/-- The slot a trap uses in a role (R6). -/
def Trap.slotOf (t : Trap) : ValveRole → Nat
  | .mainline => t.mainline
  | .barrel => t.barrel
  | .flow => t.flow
  | .equalise => t.equalise

/-- A trap's four slots. -/
def Trap.slots (t : Trap) : List Nat := [t.mainline, t.barrel, t.flow, t.equalise]

/-- The ports whose roster holds a station, in port order (R128). -/
def MapCopy.claims (m : MapCopy) (station : Nat) : List (Fin 4) :=
  ([0, 1, 2, 3] : List (Fin 4)).filter fun i => (m.rosters.get i).stations.contains station

/-- The claiming port of a station: exactly one roster holds it (R128). -/
def MapCopy.claim (m : MapCopy) (station : Nat) : Option (Fin 4) :=
  match m.claims station with
  | [i] => some i
  | _ => none

/-- The section that names a meter, and whether as its primary (R5, R42). -/
def MapCopy.sectionNaming (m : MapCopy) (meter : Nat) : Option (Nat × Bool) :=
  (m.sections.find? fun e => e.2.primary == meter || e.2.alternate == some meter).map fun e => (e.1, e.2.primary == meter)

/-- The default slip of a pig kind (R8). -/
def Tuning.slipOf (t : Tuning) : PigKind → Nat
  | .scraper => t.slipScraper
  | .brush => t.slipBrush
  | .cup => t.slipCup
  | .foam => t.slipFoam

/-- The ten settings in the order of R8. -/
def Tuning.settings (t : Tuning) : List Nat :=
  [t.smin, t.u0, t.q, t.umax, t.ks, t.fmin, t.slipScraper, t.slipBrush, t.slipCup, t.slipFoam]

end Sys2Proof.Machine
end

