-- ==== Sys2Proof/Machine/MapRecords.lean ====
section
/-! DEFINITION. The configuration records as fields: their widths and bytes (A.1), the edits of MAP WRITE with their ranges,
defaults and clamps (R2 to R10), removal (R11), the checksum's sequence (R185). -/

namespace Sys2Proof.Machine

/-! ## Records as fields (A.1) -/

/-- A segment's fields after its identity. -/
def Segment.fields (s : Segment) : List Field := [u32 s.start, u32 s.length, u32 s.fill]

/-- A station's fields. -/
def Station.fields (s : Station) : List Field :=
  [u32 s.chainage, u8 s.detector.code, u32 s.guardVol, u32 s.rearm, flag s.boundary]

/-- A section's fields. -/
def Section.fields (s : Section) : List Field := [u8 s.primary, .opt 1 s.alternate]

/-- A meter's fields. -/
def Meter.fields (m : Meter) : List Field := [u8 m.station, u8 m.width, u32 m.weight]

/-- A trap's fields. -/
def Trap.fields (t : Trap) : List Field :=
  [u8 t.station, u8 t.role.code, u32 t.chainage, .opt 1 t.pair, u8 t.mainline, u8 t.barrel, u8 t.flow, u8 t.equalise,
   u8 t.throttle, u16 t.equaliseTimeout, u16 t.driveTimeout, u16 t.armTime, u32 t.minLead, flag t.autoArm]

/-- A valve's fields. -/
def Valve.fields (v : Valve) : List Field := [u8 v.role.code, u8 v.actuator.val, u16 v.stroke]

/-- An actuator table's sixteen entries. -/
def actuatorFields (t : List Nat) : List Field := t.map u8

/-- The tuning record's ten settings. -/
def Tuning.fields (t : Tuning) : List Field := t.settings.map u32

/-- A roster: timing values, station count, stations in poll order. -/
def Roster.fields (r : Roster) : List Field :=
  [u16 r.replyTimeout, u8 r.retryLimit, u16 r.pollGap, u8 r.stations.length] ++ r.stations.map u8

/-! ## Record kinds and identities -/

/-- The record kinds that MAP WRITE, MAP CLEAR and MAP READ name (A.1). -/
inductive RecordKind | segment | station | lineSection | meter | trap | valve | actuator | tuning | roster
  deriving DecidableEq, Repr

/-- The kind codes of A.1. -/
def RecordKind.code : RecordKind → Nat
  | .segment => 0
  | .station => 1
  | .lineSection => 2
  | .meter => 3
  | .trap => 4
  | .valve => 5
  | .actuator => 6
  | .tuning => 7
  | .roster => 8

/-- The record kind a code names. -/
def RecordKind.ofCode : Nat → Option RecordKind
  | 0 => some .segment
  | 1 => some .station
  | 2 => some .lineSection
  | 3 => some .meter
  | 4 => some .trap
  | 5 => some .valve
  | 6 => some .actuator
  | 7 => some .tuning
  | 8 => some .roster
  | _ => none

/-- The widths of a kind's fields in mask order (A.1); MAP WRITE gives a roster none, since it refuses the kind (R10). -/
def RecordKind.widths : RecordKind → List Nat
  | .segment => [4, 4, 4]
  | .station => [4, 1, 4, 4, 1]
  | .lineSection => [1, 1]
  | .meter => [1, 1, 4]
  | .trap => [1, 1, 4, 1, 1, 1, 1, 1, 1, 2, 2, 2, 4, 1]
  | .valve => [1, 1, 2]
  | .actuator => List.replicate 16 1
  | .tuning => List.replicate 10 4
  | .roster => []

/-- The table key of an identity sent as two bytes: a valve's station stands in the first byte, its slot in the second. -/
def RecordKind.key (k : RecordKind) (b0 b1 : Byte) : Nat :=
  match k with
  | .valve => valveKey b0.toNat b1.toNat
  | _ => leNat [b0, b1]

/-- The identity field that a table key is sent as. -/
def RecordKind.identity (k : RecordKind) (key : Nat) : Field :=
  match k with
  | .valve => u16 (key / 256 + 256 * (key % 256))
  | _ => u16 key

/-- Whether a key lies in its kind's identity range (R2 to R8, R10). -/
def RecordKind.inRange (k : RecordKind) (key : Nat) : Bool :=
  match k with
  | .segment => key ≤ 511
  | .station => 1 ≤ key && key ≤ 64
  | .lineSection => key ≤ 15
  | .meter => 1 ≤ key && key ≤ 32
  | .trap => 1 ≤ key && key ≤ 16
  | .valve => 1 ≤ key / 256 && key / 256 ≤ 64 && 1 ≤ key % 256 && key % 256 ≤ 6
  | .actuator => key ≤ 3
  | .tuning => key = 0
  | .roster => key ≤ 3

/-- The place of one of the four ports or actuator tables. -/
def fourOf (n : Nat) : Option (Fin 4) := if h : n < 4 then some ⟨n, h⟩ else none

/-! ## Reading the fields of a MAP WRITE -/

/-- The fields that a mask names, read at their widths: absent fields are none; the bytes must be used up (R10, A.1). -/
def readMasked : List Nat → Nat → List Byte → Option (List (Option Nat))
  | [], _, bs => if bs.isEmpty then some [] else none
  | w :: ws, mask, bs =>
    if mask % 2 = 1 then
      if bs.length < w then none
      else (readMasked ws (mask / 2) (bs.drop w)).map fun r => some (leNat (bs.take w)) :: r
    else (readMasked ws (mask / 2) bs).map fun r => none :: r

/-- The bytes that a mask's fields take (A.1). -/
def maskedSize : List Nat → Nat → Nat
  | [], _ => 0
  | w :: ws, mask => (if mask % 2 = 1 then w else 0) + maskedSize ws (mask / 2)

/-- A required or kept field: the value given, or else the value held; none when neither is there, or when it is out of
range (R10). -/
def pick (given : Option Nat) (old : Option Nat) (lo hi : Nat) : Option Nat :=
  match given with
  | some v => if lo ≤ v ∧ v ≤ hi then some v else none
  | none => old

/-- A field that is clamped as it is written (R10). -/
def pickClamped (given : Option Nat) (old : Nat) (lo hi : Nat) : Nat :=
  match given with
  | some v => max lo (min v hi)
  | none => old

/-- A coded field: the value its code names, or the value held. -/
def pickCoded {α : Type} (ofCode : Nat → Option α) (given : Option Nat) (old : Option α) : Option α :=
  match given with
  | some v => ofCode v
  | none => old

/-- An optional field of one byte whose absence is sent as FFh (R182). -/
def pickOptional (given : Option Nat) (old : Option Nat) (lo hi : Nat) : Option (Option Nat) :=
  match given with
  | some 0xFF => some none
  | some v => if lo ≤ v ∧ v ≤ hi then some (some v) else none
  | none => some old

/-- The counter widths of R5. That the byte of the field holds the number 12, 16 or 24 itself, and not the codes 0, 1, 2 of an enumerated
field (R181), is the model's choice (log entry 55). -/
def counterWidth : Nat → Option Nat
  | 12 => some 12
  | 16 => some 16
  | 24 => some 24
  | _ => none

/-- A segment written (R2, R10). -/
def Segment.write (old : Option Segment) (fs : List (Option Nat)) : Option Segment := do
  match fs with
  | [a, b, c] =>
    let start ← pick a (old.map (·.start)) 0 1500000
    let length ← pick b (old.map (·.length)) 1 1500000
    let fill ← pick c (old.map (·.fill)) 0 max32
    some { start, length, fill }
  | _ => none

/-- A station written (R3, R10). -/
def Station.write (old : Option Station) (fs : List (Option Nat)) : Option Station := do
  match fs with
  | [a, b, c, d, e] =>
    let chainage ← pick a (old.map (·.chainage)) 0 1500000
    let detector ← pickCoded Detector.ofCode b (some ((old.map (·.detector)).getD .none))
    let guardVol ← pick c (some ((old.map (·.guardVol)).getD 20000)) 0 10000000
    let rearm ← pick d (some ((old.map (·.rearm)).getD 500)) 0 1000000
    let boundary ← pickCoded boolOfCode e (some ((old.map (·.boundary)).getD false))
    some { chainage, detector, guardVol, rearm, boundary }
  | _ => none

/-- A section written (R4, R10). -/
def Section.write (old : Option Section) (fs : List (Option Nat)) : Option Section := do
  match fs with
  | [a, b] =>
    let primary ← pick a (old.map (·.primary)) 1 32
    let alternate ← pickOptional b (old.bind (·.alternate)) 1 32
    some { primary, alternate }
  | _ => none

/-- A meter written (R5, R10). -/
def Meter.write (old : Option Meter) (fs : List (Option Nat)) : Option Meter := do
  match fs with
  | [a, b, c] =>
    let station ← pick a (old.map (·.station)) 1 64
    let width ← pickCoded counterWidth b (some ((old.map (·.width)).getD 16))
    let weight ← pick c (old.map (·.weight)) 1 1000000
    some { station, width, weight }
  | _ => none

/-- A trap written (R6, R10). -/
def Trap.write (old : Option Trap) (fs : List (Option Nat)) : Option Trap := do
  match fs with
  | [a, b, c, d, e, f, g, h, i, j, k, l, m, n] =>
    let station ← pick a (old.map (·.station)) 1 64
    let role ← pickCoded TrapRole.ofCode b (old.map (·.role))
    let chainage ← pick c (old.map (·.chainage)) 0 1500000
    let pair ← pickOptional d (old.bind (·.pair)) 1 16
    let mainline ← pick e (old.map (·.mainline)) 1 6
    let barrel ← pick f (old.map (·.barrel)) 1 6
    let flow ← pick g (old.map (·.flow)) 1 6
    let equalise ← pick h (old.map (·.equalise)) 1 6
    let throttle := pickClamped i ((old.map (·.throttle)).getD 30) 10 90
    let equaliseTimeout ← pick j (some ((old.map (·.equaliseTimeout)).getD 300)) 10 3600
    let driveTimeout ← pick k (some ((old.map (·.driveTimeout)).getD 600)) 10 7200
    let armTime ← pick l (some ((old.map (·.armTime)).getD 240)) 0 3600
    let minLead ← pick m (some ((old.map (·.minLead)).getD 50000)) 0 50000000
    let autoArm ← pickCoded boolOfCode n (some ((old.map (·.autoArm)).getD true))
    some { station, role, chainage, pair, mainline, barrel, flow, equalise, throttle, equaliseTimeout, driveTimeout,
           armTime, minLead, autoArm }
  | _ => none

/-- A valve written (R7, R10). -/
def Valve.write (old : Option Valve) (fs : List (Option Nat)) : Option Valve := do
  match fs with
  | [a, b, c] =>
    let role ← pickCoded ValveRole.ofCode a (old.map (·.role))
    let actuator ← pickCoded fourOf b (some ((old.map (·.actuator)).getD 0))
    let stroke := pickClamped c ((old.map (·.stroke)).getD 120) 10 900
    some { role, actuator, stroke }
  | _ => none

/-- An actuator table written: each entry given replaces the one held, and none may be above 100 (R7). -/
def writeActuator : List Nat → List (Option Nat) → Option (List Nat)
  | [], [] => some []
  | o :: old, g :: fs => do
    let v ← pick g (some o) 0 100
    let rest ← writeActuator old fs
    some (v :: rest)
  | _, _ => none

/-- The tuning record written: every field takes any 32-bit value at edit (R8). -/
def Tuning.write (old : Tuning) (fs : List (Option Nat)) : Option Tuning :=
  match fs with
  | [a, b, c, d, e, f, g, h, i, j] =>
    some { smin := a.getD old.smin, u0 := b.getD old.u0, q := c.getD old.q, umax := d.getD old.umax, ks := e.getD old.ks,
           fmin := f.getD old.fmin, slipScraper := g.getD old.slipScraper, slipBrush := h.getD old.slipBrush,
           slipCup := i.getD old.slipCup, slipFoam := j.getD old.slipFoam }
  | _ => none

/-! ## Editing a copy (R10, R11) -/

/-- The copy with one record created or replaced; none when the write is refused RANGE (R10). -/
def MapCopy.write (m : MapCopy) (k : RecordKind) (key : Nat) (fs : List (Option Nat)) : Option MapCopy :=
  if k.inRange key then
    match k with
    | .segment => (Segment.write (Table.get m.segments key) fs).map fun r => { m with segments := Table.put m.segments key r }
    | .station => (Station.write (Table.get m.stations key) fs).map fun r => { m with stations := Table.put m.stations key r }
    | .lineSection => (Section.write (Table.get m.sections key) fs).map fun r => { m with sections := Table.put m.sections key r }
    | .meter => (Meter.write (Table.get m.meters key) fs).map fun r => { m with meters := Table.put m.meters key r }
    | .trap => (Trap.write (Table.get m.traps key) fs).map fun r => { m with traps := Table.put m.traps key r }
    | .valve => (Valve.write (Table.get m.valves key) fs).map fun r => { m with valves := Table.put m.valves key r }
    | .actuator => do
      let i ← fourOf key
      let t ← writeActuator (m.actuators.get i) fs
      some { m with actuators := m.actuators.set i t }
    | .tuning => (m.tuning.write fs).map fun t => { m with tuning := t }
    | .roster => none
  else none

/-- The fields of a record, or none when it is absent from the copy (R12). -/
def MapCopy.recordFields (m : MapCopy) (k : RecordKind) (key : Nat) : Option (List Field) :=
  match k with
  | .segment => (Table.get m.segments key).map Segment.fields
  | .station => (Table.get m.stations key).map Station.fields
  | .lineSection => (Table.get m.sections key).map Section.fields
  | .meter => (Table.get m.meters key).map Meter.fields
  | .trap => (Table.get m.traps key).map Trap.fields
  | .valve => (Table.get m.valves key).map Valve.fields
  | .actuator => (fourOf key).map fun i => actuatorFields (m.actuators.get i)
  | .tuning => if key = 0 then some m.tuning.fields else none
  | .roster => (fourOf key).map fun i => (m.rosters.get i).fields

/-- The keys of the records of a kind that are present, rising. -/
def MapCopy.keysOf (m : MapCopy) (k : RecordKind) : List Nat :=
  match k with
  | .segment => Table.keys m.segments
  | .station => Table.keys m.stations
  | .lineSection => Table.keys m.sections
  | .meter => Table.keys m.meters
  | .trap => Table.keys m.traps
  | .valve => Table.keys m.valves
  | .actuator => [0, 1, 2, 3]
  | .tuning => [0]
  | .roster => [0, 1, 2, 3]

/-- The copy with one record removed, or set back to its defaults when it cannot be absent (R11). -/
def MapCopy.clear (m : MapCopy) (k : RecordKind) (key : Nat) : MapCopy :=
  match k with
  | .segment => { m with segments := Table.erase m.segments key }
  | .station => { m with stations := Table.erase m.stations key }
  | .lineSection => { m with sections := Table.erase m.sections key }
  | .meter => { m with meters := Table.erase m.meters key }
  | .trap => { m with traps := Table.erase m.traps key }
  | .valve => { m with valves := Table.erase m.valves key }
  | .actuator =>
    match fourOf key with
    | none => m
    | some i => { m with actuators := m.actuators.set i defaultActuator }
  | .tuning => { m with tuning := defaultTuning }
  | .roster =>
    match fourOf key with
    | none => m
    | some i => { m with rosters := m.rosters.set i defaultRoster }

/-- The fields of R12's computed values for a record of the committed copy. -/
def MapCopy.computedFields (m : MapCopy) (k : RecordKind) (key : Nat) : List Field :=
  match k with
  | .segment =>
    match m.segs.find? fun s => s.index == key with
    | none => []
    | some s => [u32 s.seg.volume, u32 s.vstart]
  | .station => [u32 (m.stationCoord key), u8 (m.sectionOf (m.stationCoord key))]
  | .trap =>
    match Table.get m.traps key with
    | none => []
    | some t =>
      [u32 (m.trapCoord key), u8 (m.sectionOf (m.trapCoord key))] ++
      match t.role with
      | .launcher => [.opt 1 ((m.launcherEnd (m.trapCoord key)).map Prod.fst)]
      | .receiver => []
  | _ => []

/-! ## The checksum (R23, R185) -/

/-- One record of the checksum's sequence: its kind code, its identity in two bytes, its fields. -/
def recordBytes (k : RecordKind) (key : Nat) (fs : List Field) : List Byte :=
  fieldsBytes ([u8 k.code, k.identity key] ++ fs)

/-- The records of one kind in rising identity. -/
def MapCopy.kindBytes (m : MapCopy) (k : RecordKind) : List Byte :=
  (m.keysOf k).flatMap fun key => recordBytes k key ((m.recordFields k key).getD [])

/-- The canonical byte sequence of a copy (R185). -/
def MapCopy.canonical (m : MapCopy) : List Byte :=
  ([.segment, .station, .lineSection, .meter, .trap, .valve, .actuator, .tuning, .roster] : List RecordKind).flatMap m.kindBytes

/-- The map checksum: 0 while the commit count is 0 (R23, R185). -/
def MapCopy.checksum (m : MapCopy) (commitCount : Nat) : Nat := if commitCount = 0 then 0 else crc32 m.canonical

end Sys2Proof.Machine
end

