-- ==== Sys2Proof/Machine/MapCheck.lean ====
section
/-! DEFINITION. The checks of MAP COMMIT in their fixed order (R13 to R16). Each check answers the first failure it finds, or
none. -/

namespace Sys2Proof.Machine

/-- A failing record and the reason (R13). -/
structure MapFail where
  kind : RecordKind
  key : Nat
  reason : MapReason
  deriving DecidableEq, Repr

/-- The failure of a condition. -/
def failIf (b : Bool) (kind : RecordKind) (key : Nat) (reason : MapReason) : Option MapFail :=
  if b then some { kind, key, reason } else none

/-- The first failure of a list of checks in order. -/
def firstFail : List (Option MapFail) → Option MapFail
  | [] => none
  | some f :: _ => some f
  | none :: rest => firstFail rest

/-- Segments in index order: GAP before FILL RANGE for one segment (R14). `i` and `pos` are the index and start expected. -/
def checkSegments : Table Segment → Nat → Nat → Option MapFail
  | [], i, _ => failIf (i == 0) .segment 0 .gap
  | (k, s) :: rest, i, pos =>
    if k ≠ i then some { kind := .segment, key := if i = 0 then 0 else k, reason := .gap }
    else if s.start ≠ pos then some { kind := .segment, key := k, reason := .gap }
    else if s.fill < 50000 ∨ 2500000 < s.fill then some { kind := .segment, key := k, reason := .fillRange }
    else if rest.isEmpty then none
    else checkSegments rest (i + 1) s.stop

/-- The running sum of segment volumes rises above 4,000,000,000 L (R14). -/
def checkVolumes : Table Segment → Nat → Option MapFail
  | [], _ => none
  | (k, s) :: rest, v =>
    if 4000000000 < v + s.volume then some { kind := .segment, key := k, reason := .volumeRange }
    else checkVolumes rest (v + s.volume)

/-- The line as a whole: length, then volume (R14). -/
def MapCopy.checkLine (m : MapCopy) : Option MapFail :=
  firstFail [failIf (1500000 < m.lineEnd) .segment ((m.segments.getLast?.map Prod.fst).getD 0) .length, checkVolumes m.segments 0]

/-- Stations in number order: on the line, each strictly above the next lower-numbered one (R15). -/
def checkStations (lineEnd : Nat) : Table Station → Option Nat → Option MapFail
  | [], _ => none
  | (k, s) :: rest, below =>
    if lineEnd < s.chainage || below.any fun c => s.chainage ≤ c then
      some { kind := .station, key := k, reason := .stationOrder }
    else checkStations lineEnd rest (some s.chainage)

/-- A meter is present and its station is present (R15). -/
def MapCopy.meterPlaced (m : MapCopy) (n : Nat) : Bool :=
  match Table.get m.meters n with
  | none => false
  | some r => Table.has m.stations r.station

/-- The meters a section names. -/
def Section.meters (s : Section) : List Nat := s.primary :: s.alternate.toList

/-- The checks of one section index, in the order of R15's table. -/
def MapCopy.checkSection (m : MapCopy) (k : Nat) : Option MapFail :=
  match Table.get m.sections k with
  | none => failIf (k ≤ m.boundaryStations.length) .lineSection k .sectionMeter
  | some s =>
    failIf
      (!m.meterPlaced s.primary
        || s.alternate.any (fun a => !m.meterPlaced a || a == s.primary)
        || (m.sections.any fun e => e.1 < k && e.2.meters.any fun x => s.meters.contains x)
        || m.boundaryStations.length < k)
      .lineSection k .sectionMeter

/-- Sections: the boundary count first, then the indices 0 to 15 (R15). -/
def MapCopy.checkSections (m : MapCopy) : Option MapFail :=
  match m.boundaryStations[15]? with
  | some n => some { kind := .station, key := n, reason := .sectionMeter }
  | none => firstFail ((List.range 16).map m.checkSection)

/-- Valves in order of station and slot: the station is present (R15). -/
def MapCopy.checkValves (m : MapCopy) : Option MapFail :=
  firstFail (m.valves.map fun e => failIf (!Table.has m.stations (e.1 / 256)) .valve e.1 .valveRole)

/-- Whether a trap stands where it cannot work (R16, TRAP PLACEMENT). -/
def MapCopy.misplaced (m : MapCopy) (n : Nat) (t : Trap) : Bool :=
  match Table.get m.stations t.station with
  | none => true
  | some s =>
    (m.lineEnd < t.chainage)
    || (match t.role with
        | .launcher =>
          (t.chainage < s.chainage || (t.chainage == s.chainage && s.boundary))
          || (match Table.atOrAbove m.stations (t.station + 1) with
              | none => false
              | some next => decide (next.2.chainage ≤ t.chainage))
          || (m.launcherEnd (m.trapCoord n)).isNone
        | .receiver =>
          (s.chainage < t.chainage)
          || (match (m.stations.filter fun e => e.1 < t.station).getLast? with
              | none => false
              | some prev => decide (t.chainage ≤ prev.2.chainage)))
    || (m.traps.any fun e => e.1 < n && e.2.role == t.role && e.2.station == t.station)

/-- Whether a trap's pairing does not match (R16, PAIRING). -/
def MapCopy.mispaired (m : MapCopy) (n : Nat) (t : Trap) : Bool :=
  match t.pair with
  | none => false
  | some p =>
    match Table.get m.traps p with
    | none => true
    | some u =>
      u.pair != some n || u.role == t.role || u.station != t.station ||
      (match t.role with
       | .receiver => m.trapCoord p ≤ m.trapCoord n
       | .launcher => m.trapCoord n ≤ m.trapCoord p)

/-- Two traps are a relay pair (R16). -/
def relayPair (a : Nat) (ta : Trap) (b : Nat) (tb : Trap) : Bool := ta.pair == some b && tb.pair == some a

/-- The four roles of a trap's valves. -/
def allRoles : List ValveRole := [.mainline, .barrel, .flow, .equalise]

/-- Whether a trap's valves do not fit its needs (R16, VALVE ROLE). -/
def MapCopy.misvalved (m : MapCopy) (n : Nat) (t : Trap) : Bool :=
  !t.slots.Nodup
  || (allRoles.any fun r =>
        match m.valve t.station (t.slotOf r) with
        | none => true
        | some v => v.role != r)
  || (m.traps.any fun e =>
        e.1 < n && e.2.station == t.station &&
        (allRoles.any fun r => allRoles.any fun r' =>
          t.slotOf r == e.2.slotOf r' && !(relayPair n t e.1 e.2 && r == r')))

/-- One trap: placement, then pairing, then valve roles (R16). -/
def MapCopy.checkTrap (m : MapCopy) (n : Nat) (t : Trap) : Option MapFail :=
  firstFail
    [failIf (m.misplaced n t) .trap n .trapPlacement,
     failIf (m.mispaired n t) .trap n .pairing,
     failIf (m.misvalved n t) .trap n .valveRole]

/-- The ranges of the ten tuning settings, Umax against the copy's own U0 (R8). -/
def Tuning.ranges (t : Tuning) : List (Nat × Nat) :=
  [(0, 1000000), (0, 1000000), (0, 2000), (t.u0, 50000000), (1, 50000000), (0, 10000000), (0, 2500), (0, 2500), (0, 2500),
   (0, 2500)]

/-- The first setting out of range, by its position from 1 (R13). -/
def checkSettings : List Nat → List (Nat × Nat) → Nat → Option MapFail
  | v :: vs, r :: rs, i =>
    if v < r.1 ∨ r.2 < v then some { kind := .tuning, key := i, reason := .tuning } else checkSettings vs rs (i + 1)
  | _, _, _ => none

/-- The stations of one roster against the map and the stations named earlier (R16). -/
def rosterOk (m : MapCopy) : List Nat → List Nat → Bool
  | [], _ => true
  | s :: rest, seen => Table.has m.stations s && !seen.contains s && rosterOk m rest (s :: seen)

/-- The rosters in port order (R16). -/
def MapCopy.checkRosters (m : MapCopy) : Option MapFail :=
  let r := fun (i : Fin 4) => (m.rosters.get i).stations
  firstFail
    [failIf (!rosterOk m (r 0) []) .roster 0 .roster,
     failIf (!rosterOk m (r 1) (r 0)) .roster 1 .roster,
     failIf (!rosterOk m (r 2) (r 0 ++ r 1)) .roster 2 .roster,
     failIf (!rosterOk m (r 3) (r 0 ++ r 1 ++ r 2)) .roster 3 .roster]

/-- The checks of MAP COMMIT in their order, stopping at the first failure (R13). -/
def MapCopy.check (m : MapCopy) : Option MapFail :=
  firstFail
    [checkSegments m.segments 0 0,
     m.checkLine,
     checkStations m.lineEnd m.stations none,
     m.checkSections,
     m.checkValves,
     firstFail (m.traps.map fun e => m.checkTrap e.1 e.2),
     checkSettings m.tuning.settings m.tuning.ranges 1,
     m.checkRosters]

end Sys2Proof.Machine
end

