-- ==== Sys2Proof/Machine/Tracking.lean ====
section
/-! DEFINITION. What the blocks read of one another at the moment they act: pigs, spreads, lists, liveness, drivers, and the
limit of a pig's advance (R45, R54). -/

namespace Sys2Proof.Machine

/-- The committed copy, which every block but the line map reads (R9). -/
def Part.map (p : Part) : MapCopy := p.lineMap.committed

/-- The committed tuning record (R8). -/
def Part.tuning (p : Part) : Tuning := p.map.tuning

/-! ## Pigs -/

/-- The run table's entry of an identity. -/
def Part.pig (p : Part) (id : Nat) : Option Pig := p.run.pigs.find? fun g => g.id == id

/-- The run table with one entry replaced. -/
def RunTable.setPig (r : RunTable) (g : Pig) : RunTable := { r with pigs := r.pigs.map fun x => if x.id = g.id then g else x }

/-- The part with one entry of the run table replaced. -/
def Part.setPig (p : Part) (g : Pig) : Part := { p with run := p.run.setPig g }

/-- The entry immediately in front of a pig (R47). -/
def pigAhead : List Pig → Nat → Option Pig
  | a :: b :: rest, id => if b.id = id then some a else pigAhead (b :: rest) id
  | _, _ => none

/-- The identities from a pig rearward, the pig itself first (R47). -/
def idsFrom (pigs : List Pig) (id : Nat) : List Nat := (pigs.map (·.id)).dropWhile (· != id)

/-- The identities behind a pig (R47). -/
def idsBehind (pigs : List Pig) (id : Nat) : List Nat := (idsFrom pigs id).tail

/-- The identities in front of a pig, the nearest first (R82). -/
def idsInFront (pigs : List Pig) (id : Nat) : List Nat := ((pigs.map (·.id)).takeWhile (· != id)).reverse

/-- The spread U = min(Umax, U0 + ⌊M × q / 10000⌋) (R45). -/
def Tuning.spread (t : Tuning) (M : Nat) : Nat := min t.umax (t.u0 + M * t.q / 10000)

/-- A pig's spread under the committed tuning (R45). -/
def Part.spread (p : Part) (g : Pig) : Nat := p.tuning.spread g.M

/-- A new pig stands behind every pig whose P is greater than or equal to its own (R50, R62). -/
def insertPig (g : Pig) : List Pig → List Pig
  | [] => [g]
  | x :: rest => if g.P ≤ x.P then x :: insertPig g rest else g :: x :: rest

/-- The pig kept in a trap's holding whose identity is given, with its trap (R46). -/
def Part.holder (p : Part) (id : Nat) : Option (Nat × HeldPig) :=
  (p.traps.find? fun e => e.2.holding.any fun h => h.id == id).bind fun e => e.2.holding.map fun h => (e.1, h)

/-- Whether an identity stands in the run table or in any holding (R46). -/
def Part.present (p : Part) (id : Nat) : Bool := (p.pig id).isSome || (p.holder id).isSome

/-! ## Other owners' state -/

/-- A station's liveness (R144). -/
def Part.live (p : Part) (n : Nat) : Liveness := ((Table.get p.ports.stations n).map (·.live)).getD .unknown

/-- Whether a station is SILENT; UNKNOWN counts as not SILENT (R144). -/
def Part.isSilent (p : Part) (n : Nat) : Bool := p.live n == .silent

/-- A section's driving meter (R34). -/
def Part.driver (p : Part) (k : Nat) : Option Nat := (Table.get p.meters.sections k).bind (·.driver)

/-- A station's expected-passage list (R69). -/
def Part.expected (p : Part) (n : Nat) : List Nat := ((Table.get p.attr.stations n).map (·.expected)).getD []

/-- A station's unobserved list (R72). -/
def Part.unobserved (p : Part) (n : Nat) : List Nat := ((Table.get p.attr.stations n).map (·.unobserved)).getD []

/-- A receiver trap's expected-passage list (R69). -/
def Part.awaited (p : Part) (t : Nat) : List Nat := (Table.get p.attr.receivers t).getD []

/-- The state of a trap (R98). -/
def Part.trapState (p : Part) (t : Nat) : TrapState := ((Table.get p.traps t).map (·.state)).getD .empty

/-- The part with one trap's record changed. -/
def Part.setTrap (p : Part) (t : Nat) (f : TrapRec → TrapRec) : Part := { p with traps := Table.modify p.traps t f }

/-- The part with one station's attribution record changed. -/
def Part.setAttr (p : Part) (n : Nat) (f : StationAttr → StationAttr) : Part :=
  { p with attr := { p.attr with stations := Table.modify p.attr.stations n f } }

/-- NO METER for a place: the section holding it has no driving meter (R38). -/
def Part.unmetered (p : Part) (P : Nat) : Bool := (p.driver (p.map.sectionOf P)).isNone

/-- A pig put at P: NO METER follows when P lies in a different section (R38). -/
def Part.movedTo (p : Part) (g : Pig) (P : Nat) : Pig :=
  { g with P := P, noMeter := if p.map.sectionOf P = p.map.sectionOf g.P then g.noMeter else p.unmetered P }

/-! ## Limits (R54) -/

/-- The coordinate of a point: a station's or a trap's. -/
def Part.pointCoord (p : Part) : Point → Nat
  | .none => 0
  | .station n => p.map.stationCoord n
  | .trap t => p.map.trapCoord t

/-- The receivers on whose list a pig stands. -/
def Part.receiversOf (p : Part) (id : Nat) : List Point :=
  (p.attr.receivers.filter fun e => e.2.contains id).map fun e => .trap e.1

/-- The stations on whose expected-passage list a pig stands, in order of coordinate. -/
def Part.stationsOf (p : Part) (id : Nat) : List Nat :=
  (p.attr.stations.filter fun e => e.2.expected.contains id).map Prod.fst

/-- Points with their coordinates. -/
def Part.withCoords (p : Part) (l : List Point) : List (Point × Nat) := l.map fun x => (x, p.pointCoord x)

/-- The nearest fix point on whose list the pig stands, passed over or not (R66). -/
def Part.nextFix (p : Part) (id : Nat) : Option (Point × Nat) :=
  nearest (p.withCoords ((p.stationsOf id).map Point.station ++ p.receiversOf id))

/-- The fix point term: as `nextFix`, but passing over every SILENT station (R54). -/
def Part.fixTerm (p : Part) (id : Nat) : Option (Point × Nat) :=
  nearest (p.withCoords (((p.stationsOf id).filter fun n => !p.isSilent n).map Point.station ++ p.receiversOf id))

/-- The separation term: P_front − Smin, or the pig's own P when that is lower (R54). -/
def Part.separationTerm (p : Part) (g : Pig) : Option Nat :=
  (pigAhead p.run.pigs g.id).map fun a => max g.P (a.P - p.tuning.smin)

/-- A limit, and the point of the fix point term when that term gives it; none names SEPARATION (R54, R94). -/
structure Limit where
  value : Nat
  point : Option Point
  deriving DecidableEq, Repr

/-- The smallest of the three terms; of equal terms the fix point term is named, and the line total is not (R54, R94). -/
def Part.limit (p : Part) (g : Pig) : Limit :=
  let fix := p.fixTerm g.id
  let fixValue := (fix.map Prod.snd).getD p.map.lineTotal
  let fixPoint := (fix.map Prod.fst).getD .none
  match p.separationTerm g with
  | none => { value := min fixValue p.map.lineTotal, point := some fixPoint }
  | some sep =>
    if sep < fixValue then { value := min sep p.map.lineTotal, point := none }
    else { value := min fixValue p.map.lineTotal, point := some fixPoint }

end Sys2Proof.Machine
end

