-- ==== Sys2Proof/Machine/Flags.lean ====
section
/-! DEFINITION. The three flags of a pig's checks and how each is set, cleared and reported (R90 to R94). -/

namespace Sys2Proof.Machine

/-- The OVERDUE flag after its test: set when O > U, cleared when O is 0, else left (R91). -/
def overdueAfter (O U : Nat) (was : Bool) : Bool := if U < O then true else if O = 0 then false else was

/-- The STUCK SUSPECT flag after its test: set when O > U + Ks, cleared when O is 0, else left (R92). -/
def stuckAfter (O U ks : Nat) (was : Bool) : Bool := if U + ks < O then true else if O = 0 then false else was

/-- The BLOCKED AT RECEIVER flag after its test: P at the leg-end receiver while it is not WAITING (R93). -/
def Part.blockedAfter (p : Part) (g : Pig) : Bool := g.P == p.map.trapCoord g.legEnd && p.trapState g.legEnd != .waiting

/-- The station a limit's notice names: the fix point's station, or the station of its trap (R94). -/
def Part.limitStation (p : Part) (l : Limit) : Option Nat :=
  match l.point with
  | some (.station n) => some n
  | some (.trap t) => (Table.get p.map.traps t).map (·.station)
  | _ => none

/-- The trap a limit's notice names (R94). -/
def limitTrap (l : Limit) : Option Nat :=
  match l.point with
  | some (.trap t) => some t
  | _ => none

/-- The limiting term's code: FIX POINT 0, SEPARATION 1 (R184). -/
def Limit.term (l : Limit) : Nat := if l.point.isSome then 0 else 1

/-- The point of an OVERDUE or STUCK SUSPECT entry: the limiting fix point, or for SEPARATION the pig's next fix point (R161). -/
def Part.limitPoint (p : Part) (g : Pig) (l : Limit) : Point :=
  match l.point with
  | some x => x
  | none => ((p.nextFix g.id).map Prod.fst).getD .none

/-- Report a newly set OVERDUE or STUCK SUSPECT: the notice, then the record entry (R94). That the entry's M is that at the check, a section
delta that brought it on included, is the model's choice (R161, log entry 56). -/
def Part.reportLate (p : Part) (g : Pig) (notice : NoticeKind) (entry : EntryKind) : Part :=
  let l := p.limit g
  (p.notify notice (some g.id) (p.limitStation l) (limitTrap l)
    [u32 g.O, u32 (p.spread g), u32 (p.map.chainageOf g.P), u8 l.term]).entry
    g.id entry (p.limitPoint g l) (some g.P) (some g.M) g.slip

/-- The OVERDUE test on a pig (R91). -/
def Part.testOverdue (p : Part) (g : Pig) : Part :=
  let b := overdueAfter g.O (p.spread g) g.overdue
  let q := p.setPig { g with overdue := b }
  if b && !g.overdue then q.reportLate { g with overdue := b } .pigOverdue .overdue else q

/-- The STUCK SUSPECT test on a pig (R92). -/
def Part.testStuck (p : Part) (g : Pig) : Part :=
  let b := stuckAfter g.O (p.spread g) p.tuning.ks g.stuck
  let q := p.setPig { g with stuck := b }
  if b && !g.stuck then q.reportLate { g with stuck := b } .pigStuckSuspect .stuckSuspect else q

/-- The code of a step, FFh for none (R184). -/
def stepField (s : Option TrapState) : Field := .opt 1 (s.map TrapState.code)

/-- The BLOCKED AT RECEIVER test on a pig (R93, R94). -/
def Part.testBlocked (p : Part) (g : Pig) : Part :=
  let b := p.blockedAfter g
  let q := p.setPig { g with blocked := b }
  if b && !g.blocked then
    q.notify .pigBlockedAtReceiver (some g.id) ((Table.get p.map.traps g.legEnd).map (·.station)) (some g.legEnd)
      [u8 (p.trapState g.legEnd).code, stepField ((Table.get p.traps g.legEnd).bind (·.step))]
  else q

/-- A test applied to the pig as the run table holds it now. -/
def Part.onPig (p : Part) (id : Nat) (f : Part → Pig → Part) : Part :=
  match p.pig id with
  | none => p
  | some g => f p g

/-- One check of a pig: OVERDUE, STUCK SUSPECT, BLOCKED AT RECEIVER (R90). -/
def Part.checkPig (p : Part) (id : Nat) : Part :=
  ((p.onPig id Part.testOverdue).onPig id Part.testStuck).onPig id Part.testBlocked

/-- The trap sequencer reports that a receiver has reached or left WAITING: the BLOCKED AT RECEIVER test alone, on each pig at
its coordinate with it as leg-end trap, the front-most pig first (R90, R93, log entry 42). -/
def Part.waitingChanged (p : Part) (t : Nat) : Part :=
  ((p.run.pigs.filter fun g => g.legEnd == t && g.P == p.map.trapCoord t).map (·.id)).foldl
    (fun q id => q.onPig id Part.testBlocked) p

end Sys2Proof.Machine
end

