-- ==== Sys2Proof/Machine/Advance.lean ====
section
/-! DEFINITION. The advance and the release of pigs (R52 to R58), and passing a SILENT station unobserved (R56, R85). -/

namespace Sys2Proof.Machine

/-! ## Leaving lists -/

/-- A pig leaves a station's expected-passage list (R71). -/
def Part.leaveStation (p : Part) (n id : Nat) : Part := p.setAttr n fun a => { a with expected := a.expected.filter (· != id) }

/-- A pig passes a SILENT station unobserved: it leaves the station's list, joins the rear of its unobserved list, and its
record takes the entry (R85). -/
def Part.passUnobserved (p : Part) (g : Pig) (M n : Nat) : Part :=
  ((p.leaveStation n g.id).setAttr n fun a =>
    { a with unobserved := if a.unobserved.contains g.id then a.unobserved else a.unobserved ++ [g.id] }).entry
    g.id .passedUnobserved (.station n) (some g.P) (some M) g.slip

/-- The SILENT stations on whose list the pig stands and whose coordinate its P has reached, in order of coordinate (R56). -/
def Part.silentReached (p : Part) (g : Pig) : List Nat :=
  (p.stationsOf g.id).filter fun n => p.isSilent n && p.map.stationCoord n ≤ g.P

/-- The pass-unobserved test of R56 on a pig as the run table holds it. -/
def Part.testUnobserved (p : Part) (id : Nat) : Part :=
  p.onPig id fun q g => (q.silentReached g).foldl (fun r n => r.passUnobserved g g.M n) q

/-! ## One pig's treatment (R53 to R57) -/

/-- A = ΔV × (10000 − s) + rp (R53). -/
def advanceSum (g : Pig) (dv : Nat) : Nat := dv * (10000 - g.slip) + g.rp

/-- The target P + adv + O (R54). -/
def targetOf (g : Pig) (dv : Nat) : Nat := g.P + advanceSum g dv / 10000 + g.O

/-- The new P: the smaller of target and limit, but not less than the old P (R55). -/
def newPlace (g : Pig) (dv limit : Nat) : Nat := max g.P (min (targetOf g dv) limit)

/-- The pig after R53 to R55 under a limit: M and rp from the delta, P to the smaller of target and limit but not less than
before, O the difference. -/
def treatPig (p : Part) (g : Pig) (dv limit : Nat) : Pig :=
  { p.movedTo g (newPlace g dv limit) with
    M := satAdd max32 g.M dv
    rp := advanceSum g dv % 10000
    O := min (targetOf g dv - newPlace g dv limit) max32 }

/-- Treat one pig: R53 to R55, then the pass-unobserved test (R56), then the checks (R57). -/
def Part.evaluate (p : Part) (id dv : Nat) : Part :=
  match p.pig id with
  | none => p
  | some g => ((p.setPig (treatPig p g dv (p.limit g).value)).testUnobserved id).checkPig id

/-- A pig's coordinate, 0 when it is not in the table. -/
def Part.placeOf (p : Part) (id : Nat) : Nat := ((p.pig id).map (·.P)).getD 0

/-! ## Release (R58) -/

/-- The release walk: each pig is re-evaluated with ΔV = 0, and the walk goes on to the pig behind while P rises. -/
def releaseWalk : List Nat → Part → Part
  | [], p => p
  | id :: rest, p =>
    let q := p.evaluate id 0
    if p.placeOf id < q.placeOf id then releaseWalk rest q else q

/-- Release a pig (R58). -/
def Part.release (p : Part) (id : Nat) : Part := releaseWalk (idsFrom p.run.pigs id) p

/-- Release the pig behind another (R58). -/
def Part.releaseBehind (p : Part) (id : Nat) : Part := releaseWalk (idsBehind p.run.pigs id) p

/-! ## A section delta (R52) -/

/-- Treat the pigs of a section in turn; the pig behind the last one is released when that one's P rose. -/
def advanceWalk (dv : Nat) : List Nat → Part → Part
  | [], p => p
  | [id], p =>
    let q := p.evaluate id dv
    if p.placeOf id < q.placeOf id then q.releaseBehind id else q
  | id :: rest, p => advanceWalk dv rest (p.evaluate id dv)

/-- The pigs whose P lies in a section's range, front first (R52). -/
def Part.sectionPigs (p : Part) (k : Nat) : List Nat :=
  (p.run.pigs.filter fun g => p.map.sectionOf g.P == k).map (·.id)

/-- Advance the pigs of a section by a delta, the hand-on of R57 still to come (R52). -/
def Part.advance (p : Part) (k dv : Nat) : Part := advanceWalk dv (p.sectionPigs k) p

end Sys2Proof.Machine
end

