-- ==== Sys2Proof/Machine/CommandTable.lean ====
section
/-! DEFINITION. The command table and the passage interlock (chapter 7): nearness, the tests for space, placing, holding,
offering and withdrawing commands. What an outcome does to a sequence stands in Sequencer.lean. -/

namespace Sys2Proof.Machine

/-! ## Nearness and the interlock (R131, R132) -/

/-- A station's guard volume (R3). -/
def MapCopy.guardOf (m : MapCopy) (x : Nat) : Nat := ((Table.get m.stations x).map (·.guardVol)).getD 0

/-- Whether a pig is near a station: Vx − U − guard ≤ P, and it is expected there, or the station cannot see it and P lies
at most the guard beyond, or it passed there unobserved and P lies at most the guard beyond (R131). -/
def Part.near (p : Part) (x : Nat) (g : Pig) : Bool :=
  decide (p.map.stationCoord x ≤ g.P + p.spread g + p.map.guardOf x) &&
  ((p.expected x).contains g.id
    || (!p.map.isFixPoint x g.tag g.legEnd && decide (g.P ≤ p.map.stationCoord x + p.map.guardOf x))
    || ((p.unobserved x).contains g.id && decide (g.P ≤ p.map.stationCoord x + p.map.guardOf x)))

/-- The pigs near a station, from the front, but for the command's own pig (R132). -/
def Part.nearPigs (p : Part) (x : Nat) (own : Option Nat) : List Pig :=
  p.run.pigs.filter fun g => own != some g.id && p.near x g

/-- A trap's role in the committed map. -/
def Part.roleOf (p : Part) (t : Nat) : Option TrapRole := (Table.get p.map.traps t).map (·.role)

/-- A sequence's own pig: of a launcher the pig in its holding or its launched pig, of a receiver its target (R132). -/
def Part.ownPig (p : Part) (t : Nat) : Option Nat :=
  match Table.get p.traps t, p.roleOf t with
  | some r, some .launcher => (r.holding.map (·.id)).or r.launched
  | some r, some .receiver => r.target
  | _, _ => none

/-- The own pig of a command's origin; a host command has none (R132). -/
def Part.originPig (p : Part) : Origin → Option Nat
  | .host => none
  | .sequence t => p.ownPig t

/-- Whether the interlock looks at a command at all: CLOSE or THROTTLE of a MAINLINE valve (R132). -/
def Part.interlockLooks (p : Part) (station slot : Nat) (action : Action) : Bool :=
  action != .opening && (p.map.valve station slot).any fun v => v.role == .mainline

/-- The pigs for which the interlock would refuse a NORMAL command (R132). -/
def Part.interlockPigs (p : Part) (station slot : Nat) (action : Action) (own : Option Nat) : List Pig :=
  if p.interlockLooks station slot action then p.nearPigs station own else []

/-! ## The table and the queues -/

/-- The number of commands the table holds (R126). -/
def commandCapacity : Nat := 24

/-- The number of commands a port's queue holds (R133). -/
def queueCapacity : Nat := 8

/-- Whether a command is on a valve. -/
def Cmd.on (c : Cmd) (station slot : Nat) : Bool := c.station == station && c.slot == slot

/-- The outstanding command of a valve. -/
def CmdTable.find (t : CmdTable) (station slot : Nat) : Option Cmd := t.cmds.find? fun c => c.on station slot

/-- A section port's record. -/
def Part.port (p : Part) (i : Fin 4) : PortRec := p.ports.port.get i

/-- The part with one port's record changed. -/
def Part.setPort (p : Part) (i : Fin 4) (f : PortRec → PortRec) : Part :=
  { p with ports := { p.ports with port := p.ports.port.modify i f } }

/-- A port's queue without a valve. -/
def PortRec.unqueue (r : PortRec) (v : Nat × Nat) : PortRec := { r with queue := r.queue.filter (· != v) }

/-- The table without a valve's command. -/
def CmdTable.drop (t : CmdTable) (station slot : Nat) : CmdTable := { t with cmds := t.cmds.filter fun c => !c.on station slot }

/-- A command leaves the table, and its port's queue when it stands there. -/
def Part.dropCmd (p : Part) (c : Cmd) : Part :=
  ({ p with cmds := p.cmds.drop c.station c.slot }).setPort c.port fun r => r.unqueue (c.station, c.slot)

/-- One outstanding command changed. -/
def Part.setCmd (p : Part) (station slot : Nat) (f : Cmd → Cmd) : Part :=
  { p with cmds := { p.cmds with cmds := p.cmds.cmds.map fun c => if c.on station slot then f c else c } }

/-- The tick at which a valve's stroke deadline, set now, expires (R7, R133). -/
def Part.strokeDeadline (p : Part) (station slot : Nat) : Tick :=
  p.after (((p.map.valve station slot).map (·.stroke)).getD 0 * 1000)

/-- A throttle target clamped (R133). -/
def clampTarget (v : Nat) : Nat := max 10 (min v 90)

/-- The place of a command in a queue: ESD commands behind every earlier ESD command and ahead of every NORMAL one, NORMAL
commands at the end (R133). -/
def enqueue (isEsd : Nat × Nat → Bool) (cls : CmdClass) (v : Nat × Nat) (q : List (Nat × Nat)) : List (Nat × Nat) :=
  match cls with
  | .normal => q ++ [v]
  | .esd => q.takeWhile isEsd ++ v :: q.dropWhile isEsd

/-- Whether the outstanding command of a valve is ESD. -/
def Part.isEsd (p : Part) (v : Nat × Nat) : Bool := (p.cmds.find v.1 v.2).any fun c => c.cls == .esd

/-- Create a command's record, QUEUED, and give it its place in the port's queue (R133). -/
def Part.place (p : Part) (port : Fin 4) (station slot : Nat) (action : Action) (target : Option Nat) (cls : CmdClass)
    (origin : Origin) : Part :=
  let c : Cmd :=
    { station, slot, action, target, cls, origin, port, sent := false, acked := false,
      deadline := p.strokeDeadline station slot, placed := p.clocks.tick }
  ({ p with cmds := { p.cmds with cmds := (p.cmds.drop station slot).cmds ++ [c] } }).setPort port
    fun r => { r with queue := enqueue p.isEsd cls (station, slot) r.queue }

/-! ## What a step learns of its commands (R104) -/

/-- Whether a trap state is active (R99). -/
def TrapState.active : TrapState → Bool
  | .equalising | .opening | .driving | .diverting | .waiting | .restoring => true
  | .empty | .loaded | .holding | .fault | .suspended => false

/-- Whether a trap state is that of a sequence in progress (R99). -/
def TrapState.inProgress : TrapState → Bool
  | .fault | .suspended => true
  | s => s.active

/-- A step command takes a condition (R104). -/
def TrapRec.setCond (m : Trap) (slot : Nat) (action : Action) (cond : StepCond) (r : TrapRec) : TrapRec :=
  { r with cmds := r.cmds.map fun c => if m.slotOf c.role == slot && c.action == action then { c with cond } else c }

/-- The step command of a trap for a valve takes a condition (R104). -/
def Part.setCond (p : Part) (t slot : Nat) (action : Action) (cond : StepCond) : Part :=
  match Table.get p.map.traps t with
  | none => p
  | some m => p.setTrap t (TrapRec.setCond m slot action cond)

/-- The hold reason that a cause gives (R104, R133). -/
def HoldCause.reason : HoldCause → HoldReason
  | .interlock => .interlock
  | .portSpace | .tableSpace => .portSpace

/-- The hold reason of the most recently held command of a trap, or none (R104). -/
def CmdTable.holdReason (c : CmdTable) (t : Nat) : HoldReason :=
  match (c.held.filter fun h => h.trap == t).getLast? with
  | none => .none
  | some h => h.cause.reason

/-- The sequencer is told that one of its commands has been placed or is held (R104). -/
def Part.tellHold (p : Part) (t slot : Nat) (action : Action) (cond : StepCond) : Part :=
  (p.setCond t slot action cond).setTrap t fun r => { r with hold := p.cmds.holdReason t }

/-! ## Sequence commands: test, place or hold (R132 to R134) -/

/-- The first test that holds a sequence command: interlock, table space, port space (R132, R133). -/
def Part.holdCause (p : Part) (t station slot : Nat) (action : Action) : Option HoldCause :=
  if !(p.interlockPigs station slot action (p.ownPig t)).isEmpty then some .interlock
  else if commandCapacity ≤ p.cmds.cmds.length then some .tableSpace
  else
    match p.map.claim station with
    | none => some .portSpace
    | some i => if queueCapacity ≤ (p.port i).queue.length then some .portSpace else none

/-- Place a sequence's command on the claiming port and tell the sequencer (R133). -/
def Part.placeSeq (p : Part) (t station slot : Nat) (action : Action) (target : Option Nat) : Part :=
  match p.map.claim station with
  | none => p
  | some i => (p.place i station slot action target .normal (.sequence t)).tellHold t slot action .placed

/-- A held entry joins the others, the newest last, and the sequencer is told (R126, R132). -/
def Part.hold (p : Part) (h : Held) : Part :=
  ({ p with cmds := { p.cmds with held := p.cmds.held ++ [h] } }).tellHold h.trap h.slot h.action .held

/-- Whether two held entries are for the same command. -/
def Held.same (a b : Held) : Bool := a.trap == b.trap && a.station == b.station && a.slot == b.slot && a.action == b.action

/-- Offer one held entry again: it is placed, or stays held with the cause of the test that failed (R134). -/
def Part.offer (p : Part) (h : Held) : Part :=
  match p.holdCause h.trap h.station h.slot h.action with
  | none =>
    ({ p with cmds := { p.cmds with held := p.cmds.held.filter fun x => !x.same h } }).placeSeq
      h.trap h.station h.slot h.action h.target
  | some cause =>
    ({ p with cmds :=
      { p.cmds with held := p.cmds.held.map fun x : Held => if x.same h then { x with cause := cause } else x } }).tellHold
      h.trap h.slot h.action .held

/-- Offer the held entries that a test picks, oldest first (R134). -/
def Part.offerAll (p : Part) (pick : Held → Bool) : Part := (p.cmds.held.filter pick).foldl Part.offer p

/-- A command has left a port's queue: its PORT SPACE entries are offered (R134). -/
def Part.offerPort (p : Part) (i : Fin 4) : Part :=
  p.offerAll fun h => h.cause == .portSpace && p.map.claim h.station == some i

/-- A command has left the table: the TABLE SPACE entries are offered (R134). -/
def Part.offerTable (p : Part) : Part := p.offerAll fun h => h.cause == .tableSpace

/-- Positions have changed: the INTERLOCK entries are offered (R134). -/
def Part.offerInterlock (p : Part) : Part := p.offerAll fun h => h.cause == .interlock

/-- The places that a command freed are offered: its queue's first when it was QUEUED, then the table's (R134). -/
def Part.offerFreed (p : Part) (c : Cmd) : Part := (if c.sent then p else p.offerPort c.port).offerTable

/-- The places that several commands freed at one event are offered: those of the queues first, then those of the table (R134). -/
def Part.offerAllFreed (p : Part) (cs : List Cmd) : Part :=
  cs.foldl (fun q _ => q.offerTable) (cs.foldl (fun q c => if c.sent then q else q.offerPort c.port) p)

/-- Several commands leave the table, and their port's queue when they stand there. -/
def Part.dropAll (p : Part) (cs : List Cmd) : Part := cs.foldl Part.dropCmd p

/-! ## Withdrawal (R134) -/

/-- The QUEUED commands of a sequence. -/
def Part.queuedOf (p : Part) (t : Nat) : List Cmd := p.cmds.cmds.filter fun c => c.origin == .sequence t && !c.sent

/-- A sequence's HELD and QUEUED commands are withdrawn and become NOT ISSUED; the places freed are offered (R118, R134). -/
def Part.withdraw (p : Part) (t : Nat) : Part :=
  let gone := p.queuedOf t
  let out := gone.foldl (fun q c => (q.dropCmd c).setCond t c.slot c.action .notIssued) p
  let bare := (out.cmds.held.filter fun h => h.trap == t).foldl (fun q h => q.setCond t h.slot h.action .notIssued)
    { out with cmds := { out.cmds with held := out.cmds.held.filter fun h => h.trap != t } }
  bare.offerAllFreed gone

end Sys2Proof.Machine
end

