-- ==== Sys2Proof/Machine/Sequencer.lean ====
section
/-! DEFINITION. The trap sequencer (chapter 6): faults, issuing a step's commands, separation, starting and restoring, auto-arm,
the end of a sequence, the judging of a step, the outcome of a command (chapter 7), the change of a list's head, the hand-on. -/

namespace Sys2Proof.Machine

/-! ## Faults (R118, R119) -/

/-- The station of a trap (R6). -/
def Part.trapStation (p : Part) (t : Nat) : Option Nat := (Table.get p.map.traps t).map (·.station)

/-- A sequence faults: FAULT with the step kept, the last fault taken, deadline and hold reason none, an active sequence's HELD
and QUEUED commands withdrawn, the notice queued, and the run table told when a receiver thereby leaves WAITING (R118, R119,
R113). -/
def Part.faultSeq (p : Part) (t : Nat) (reason : Reason) (slot : Option Nat) : Part :=
  match Table.get p.traps t with
  | none => p
  | some r =>
    let out := p.setTrap t fun x =>
      { x with state := .fault, hold := .none, deadline := none,
               lastFault := some { reason, step := x.step, slot, time := p.stamp } }
    let told := (if r.state.active then out.withdraw t else out).notify .sequenceFault
      ((r.holding.map (·.id)).or r.target) (p.trapStation t) (some t) [u8 reason.code, stepField r.step, .opt 1 slot]
    if r.state == .waiting then told.waitingChanged t else told

/-! ## Issuing a step's commands (R104) -/

/-- A step command not yet issued. -/
def StepCmd.fresh (role : ValveRole) (action : Action) : StepCmd := { role, action, cond := .notIssued }

/-- Issue one command of a step: it waits while the sequence's own earlier command is on the valve, faults on a command of
another origin, and is otherwise placed or held (R104, R120, R129, R132, R133). -/
def Part.issue (p : Part) (t : Nat) (role : ValveRole) (action : Action) : Part :=
  match Table.get p.map.traps t with
  | none => p
  | some m =>
    match p.cmds.find m.station (m.slotOf role) with
    | some c =>
      if c.origin == .sequence t then p
      else (p.setCond t (m.slotOf role) action .failed).faultSeq t .valveOverridden (some (m.slotOf role))
    | none =>
      let target := if action == .throttle then some (clampTarget m.throttle) else none
      match p.holdCause t m.station (m.slotOf role) action with
      | none => p.placeSeq t m.station (m.slotOf role) action target
      | some cause => p.hold { trap := t, station := m.station, slot := m.slotOf role, action, target, cause }

/-- The commands of a step that are to be issued now: those NOT ISSUED, and at a RESUME those FAILED; in RESTORING the closing
commands wait until mainline OPEN is COMPLETE (R108, R122). -/
def TrapRec.due (r : TrapRec) (resume : Bool) : List StepCmd :=
  let wanted := r.cmds.filter fun c => c.cond == .notIssued || (resume && c.cond == .failed)
  if r.state == .restoring && !(r.cmds.any fun c => c.role == .mainline && c.cond == .complete) then
    wanted.filter fun c => c.role == .mainline
  else wanted

/-- Issue the commands due, in the step's order, until one faults the sequence. -/
def Part.issueDue (p : Part) (t : Nat) (resume : Bool) : Part :=
  match Table.get p.traps t with
  | none => p
  | some r => (r.due resume).foldl (fun q c => if (q.trapState t).active then q.issue t c.role c.action else q) p

/-- A trap enters a step with its deadline and its commands, none of them issued. -/
def TrapRec.enter (s : TrapState) (deadline : Option Tick) (cmds : List StepCmd) (r : TrapRec) : TrapRec :=
  { r with state := s, step := some s, deadline, hold := .none, cmds }

/-! ## Separation (R103, R106) -/

/-- The separation test fails: the rearmost pig of the launcher's leg end at or above V_L stands below V_L + Smin. -/
def Part.tooClose (p : Part) (t : Nat) : Bool :=
  match p.map.launcherEnd (p.map.trapCoord t) with
  | none => false
  | some e =>
    match (p.run.pigs.filter fun g => g.legEnd == e.1 && p.map.trapCoord t ≤ g.P).getLast? with
    | none => false
    | some g => g.P < p.map.trapCoord t + p.tuning.smin

/-- Test separation at a DRIVING launcher: the step is held, or the throttle is issued (R106). -/
def Part.trySeparation (p : Part) (t : Nat) : Part :=
  if p.tooClose t then p.setTrap t fun r => { r with hold := .separation }
  else (p.setTrap t fun r => { r with hold := .none }).issueDue t false

/-- The throttle command of a step. -/
def throttleCmds : List StepCmd := [.fresh .mainline .throttle]

/-- A launcher becomes DRIVING (R106). -/
def Part.toDriving (p : Part) (t : Nat) (m : Trap) : Part :=
  (p.setTrap t (TrapRec.enter .driving (some (p.after (m.driveTimeout * 1000))) throttleCmds)).trySeparation t

/-! ## Starting and restoring (R103, R111, R108, R115) -/

/-- A sequence starts: EQUALISING with its deadline, and EQUALISE OPEN issued. -/
def Part.startSequence (p : Part) (t : Nat) (m : Trap) (target : Option Nat) : Part :=
  (p.setTrap t fun r =>
    { TrapRec.enter .equalising (some (p.after (m.equaliseTimeout * 1000))) [.fresh .equalise .opening] r with
      abort := false, eqSeen := false, target }).issueDue t false

/-- A receiver starts: auto-arm suppression and result are cleared, the target becomes the head of its list (R111). -/
def Part.startReceive (p : Part) (t : Nat) (m : Trap) : Part :=
  (p.setTrap t fun r => { r with suppressed := none, result := none }).startSequence t m (p.awaited t).head?

/-- The commands of RESTORING in their order (R108). -/
def restoringCmds : List StepCmd :=
  [.fresh .mainline .opening, .fresh .flow .closing, .fresh .barrel .closing, .fresh .equalise .closing]

/-- A trap becomes RESTORING; the run table is told when a receiver thereby leaves WAITING (R108, R113, R115). -/
def Part.toRestoring (p : Part) (t : Nat) : Part :=
  let q := p.setTrap t (TrapRec.enter .restoring none restoringCmds)
  (if ((Table.get p.traps t).bind (·.step)) == some .waiting then q.waitingChanged t else q).issueDue t false

/-- A receiver ends without a pig: result NO PIG, and RESTORING (R113). -/
def Part.noPig (p : Part) (t : Nat) : Part := (p.setTrap t fun r => { r with result := some .noPig }).toRestoring t

/-- A receiver becomes WAITING: no deadline, the run table told, and NO PIG at once when its list is empty (R113); one that a
RESUME brings here with its pig already received waits for nothing, and restores (R122). -/
def Part.toWaiting (p : Part) (t : Nat) : Part :=
  let q := (p.setTrap t (TrapRec.enter .waiting none [])).waitingChanged t
  if (Table.get q.traps t).any fun r => r.holding.isSome then q.toRestoring t
  else if (q.awaited t).isEmpty then q.noPig t
  else q

/-! ## Auto-arm (R101, R110) -/

/-- The other traps that share a valve with a trap, in index order (R16, R101). -/
def Part.sharers (p : Part) (t : Nat) (m : Trap) : List Nat :=
  (p.map.traps.filter fun e => e.1 != t && e.2.station == m.station && e.2.slots.any fun s => m.slots.contains s).map
    Prod.fst

/-- Whether a trap is free to start a sequence (R101). -/
def Part.freeToStart (p : Part) (t : Nat) (m : Trap) : Bool :=
  (p.sharers t m).all (fun u => !(p.trapState u).inProgress)
    && m.slots.all (fun s => (p.cmds.find m.station s).isNone)
    && (p.map.claim m.station).isSome

/-- The pig that heads a receiver's list. -/
def Part.headPig (p : Part) (t : Nat) : Option Pig := (p.awaited t).head?.bind p.pig

/-- T, the oil of the arm time at the section's latest rate, rounded up; 0 when the interval is 0 (R110). -/
def armOil (armMs credit interval : Nat) : Nat :=
  if interval = 0 then 0 else (armMs * credit + interval - 1) / interval

/-- The lead of a receiver for its head (R110); where it does not fit the 4 bytes of its field, its low 4 bytes are sent (log entry
38). -/
def Part.lead (p : Part) (m : Trap) (g : Pig) : Nat :=
  let oil :=
    match Table.get p.meters.sections (p.map.sectionOf g.P) with
    | none => 0
    | some k => armOil (m.armTime * 1000) k.lastCredit k.lastInterval
  max m.minLead (p.spread g + oil)

/-- The auto-arm test of one receiver, and what follows when it passes (R110). -/
def Part.autoArm (p : Part) (t : Nat) : Part :=
  match Table.get p.map.traps t, Table.get p.traps t, p.headPig t with
  | some m, some r, some g =>
    if m.role == .receiver && m.autoArm && r.state == .empty && p.freeToStart t m && p.link.mode != .setup
        && r.suppressed != some g.id && decide (p.map.trapCoord t - g.P ≤ p.lead m g) then
      (p.startReceive t m).notify .receiverArmed (some g.id) none (some t) [u32 (p.lead m g), u32 (p.map.trapCoord t - g.P)]
    else p
  | _, _, _ => p

/-- The auto-arm tests that a command's end prompts: receivers that name its valve (R110). -/
def Part.autoArmNaming (p : Part) (station slot : Nat) : Part :=
  ((p.map.traps.filter fun e => e.2.station == station && e.2.slots.contains slot).map Prod.fst).foldl Part.autoArm p

/-! ## The end of a sequence (R108, R115, R121) -/

/-- How an aborted sequence ends: state, reservation given back, head suppressed (R121). -/
def Part.endAborted (p : Part) (t : Nat) (r : TrapRec) (role : TrapRole) : Part :=
  match role, r.holding with
  | .launcher, some _ =>
    { p with run := { p.run with reservations := p.run.reservations.filter (· != t) } }.setTrap t
      fun x => { x with state := .loaded }
  | .launcher, none => p.setTrap t fun x => { x with state := .empty }
  | .receiver, some _ => p.setTrap t fun x => { x with state := .holding }
  | .receiver, none => p.setTrap t fun x => { x with state := .empty, suppressed := (p.awaited t).head? }

/-- How a sequence that was not aborted ends (R108, R115). -/
def Part.endNormal (p : Part) (t : Nat) (r : TrapRec) (role : TrapRole) : Part :=
  p.setTrap t fun x => { x with state := if role == .receiver && r.holding.isSome then .holding else .empty }

/-- The result that SEQUENCE DONE carries (R108, R115, R121). -/
def TrapRec.doneResult (r : TrapRec) (role : TrapRole) : Field :=
  if r.abort then u8 Result.aborted.code
  else
    match role with
    | .launcher => u8 Result.launched.code
    | .receiver => .opt 1 (r.result.map Result.code)

/-- A sequence ends: its state and what goes with it, notice SEQUENCE DONE, then the auto-arm tests of the trap and of those that
share a valve with it (R108, R110, R115, R121). -/
def Part.endSequence (p : Part) (t : Nat) (m : Trap) (r : TrapRec) : Part :=
  let ended := (if r.abort then p.endAborted t r m.role else p.endNormal t r m.role).setTrap t fun x =>
    { x with step := none, abort := false, target := none, launched := none, cmds := [], hold := .none, deadline := none }
  let told := ended.notify .sequenceDone none none (some t) [r.doneResult m.role]
  (t :: told.sharers t m).foldl Part.autoArm told

/-! ## Judging a step (R105, R106, R108, R112, R115) -/

/-- Whether every command of the step is COMPLETE. -/
def TrapRec.allComplete (r : TrapRec) : Bool := r.cmds.all fun c => c.cond == .complete

/-- Whether a launcher's mainline command has ended: none of its own is outstanding or held (R106). -/
def Part.mainlineEnded (p : Part) (t : Nat) (m : Trap) : Bool :=
  !((p.cmds.find m.station m.mainline).any fun c => c.origin == .sequence t) && p.cmds.held.all fun h => h.trap != t

/-- The commands of OPENING, barrel first (R105). -/
def openingCmds : List StepCmd := [.fresh .barrel .opening, .fresh .flow .opening]

/-- The step after OPENING (R105, R106, R112). -/
def Part.afterOpening (p : Part) (t : Nat) (m : Trap) (r : TrapRec) : Part :=
  match m.role with
  | .launcher => if r.holding.isSome then p.toDriving t m else p.toRestoring t
  | .receiver =>
    (p.setTrap t (TrapRec.enter .diverting (some (p.after (m.equaliseTimeout * 1000))) throttleCmds)).issueDue t false

/-- Judge an active step: when what it waits for has come, the sequence goes on. -/
def Part.judge (p : Part) (t : Nat) : Part :=
  match Table.get p.map.traps t, Table.get p.traps t with
  | some m, some r =>
    match r.state with
    | .equalising =>
      if r.allComplete && r.eqSeen then (p.setTrap t (TrapRec.enter .opening none openingCmds)).issueDue t false else p
    | .opening => if r.allComplete then p.afterOpening t m r else p
    | .driving => if r.holding.isNone && p.mainlineEnded t m then p.toRestoring t else p
    | .diverting => if r.allComplete then p.toWaiting t else p
    | .restoring => if r.allComplete then p.endSequence t m r else p.issueDue t false
    | .empty | .loaded | .waiting | .holding | .fault | .suspended => p
  | _, _ => p

/-! ## Outcomes of commands (R104, R137, R138) -/

/-- How a command ends. -/
inductive CmdEnd
  | complete
  | failed (r : Reason)
  deriving DecidableEq, Repr

/-- Whether a trap's step has this command PLACED. -/
def Part.stepHas (p : Part) (t slot : Nat) (action : Action) : Bool :=
  match Table.get p.map.traps t, Table.get p.traps t with
  | some m, some r => r.cmds.any fun c => m.slotOf c.role == slot && c.action == action && c.cond == .placed
  | _, _ => false

/-- The reason a sequence faults with: SUPERSEDED becomes VALVE OVERRIDDEN (R104). -/
def Reason.asFault : Reason → Reason
  | .superseded => .valveOverridden
  | r => r

/-- The outcome of a sequence's command: recorded in the step's commands, moving an active step on or faulting it; an outcome of
a command that an ABORT or a RESUME has replaced is not recorded, but a restoring command may have waited for it (R104, R120). -/
def Part.seqOutcome (p : Part) (t slot : Nat) (action : Action) (e : CmdEnd) : Part :=
  let recorded := p.stepHas t slot action
  match e with
  | .complete => (if recorded then p.setCond t slot action .complete else p).judge t
  | .failed reason =>
    if recorded then
      let q := p.setCond t slot action .failed
      if (p.trapState t).active then q.faultSeq t reason.asFault (some slot) else q
    else p.judge t

/-- Notice VALVE DONE (R138). -/
def Part.valveDone (p : Part) (c : Cmd) : Part :=
  let position := (Table.get p.cmds.valves (valveKey c.station c.slot)).bind (·.position)
  p.notify .valveDone none (some c.station) none
    [u8 c.slot, u8 c.action.code, .opt 1 c.target, .opt 1 position, u32 (p.clocks.tick - c.placed).toNat]

/-- Notice VALVE FAILED, naming the near pig where the reason is PIG NEAR (R135, R138). -/
def Part.valveFailed (p : Part) (c : Cmd) (reason : Reason) (pig : Option Nat) : Part :=
  let v := Table.get p.cmds.valves (valveKey c.station c.slot)
  p.notify .valveFailed pig (some c.station) none
    [u8 c.slot, u8 c.action.code, u8 c.cls.code, u8 reason.code, .opt 1 (v.bind (·.position)),
     .opt 1 ((v.bind (·.state)).map ValveState.code)]

/-- A command's outcome goes to its origin (R138). -/
def Part.tellOrigin (p : Part) (c : Cmd) (e : CmdEnd) : Part :=
  match c.origin with
  | .sequence t => p.seqOutcome t c.slot c.action e
  | .host =>
    match e with
    | .complete => p.valveDone c
    | .failed reason => p.valveFailed c reason none

/-- A command ends: it leaves the table, the places it frees are offered, its origin is told, and the receivers that name its
valve make their auto-arm tests (R110, R134, R137, R138; the order is log entry 19). -/
def Part.endCmd (p : Part) (c : Cmd) (e : CmdEnd) : Part :=
  (((p.dropCmd c).offerFreed c).tellOrigin c e).autoArmNaming c.station c.slot

/-- End the outstanding command of a valve, if it is still in the table. -/
def Part.endValve (p : Part) (station slot : Nat) (e : CmdEnd) : Part :=
  match p.cmds.find station slot with
  | none => p
  | some c => p.endCmd c e

/-- One event ends several commands, each of them with its outcome (R137). All leave the table, and the places they free are offered
(R134); then their origins are told in the order given (R138), and the receivers that name their valves make their auto-arm tests (R110).
The first outcome of a sequence faults it, and the fault finds none of the others QUEUED to withdraw (R118): they are recorded FAILED as
they come, and fault it no second time (R104; log entry 51). -/
def Part.endAll (p : Part) (cs : List Cmd) (e : CmdEnd) : Part :=
  let freed := (p.dropAll cs).offerAllFreed cs
  let told := cs.foldl (fun q c => q.tellOrigin c e) freed
  cs.foldl (fun q c => q.autoArmNaming c.station c.slot) told

/-! ## The head of a receiver's list, and the hand-on (R57, R113, R134) -/

/-- Attribution reports that the head of a receiver's list has changed: suppression ends, the target follows, a WAITING receiver
with an empty list ends NO PIG, and auto-arm is tested (R110, R113, R121). -/
def Part.headChanged (p : Part) (t : Nat) : Part :=
  let head := (p.awaited t).head?
  let q := p.setTrap t fun r =>
    { r with suppressed := none
             target := if r.state.inProgress && !r.abort && r.holding.isNone then head else r.target }
  let empty := (Table.get q.traps t).any fun r => r.state == .waiting && r.holding.isNone && head.isNone
  (if empty then q.noPig t else q).autoArm t

/-- The hand-on (R57): the INTERLOCK entries are offered, each receiver makes its auto-arm test, and each launch held by
separation is tested again. That several receivers are tested, and several launches tested again, in rising trap index is the model's
choice (R103, R106 and R110 give no order; log entry 47). -/
def Part.handOn (p : Part) : Part :=
  let armed := (Table.keys p.map.traps).foldl Part.autoArm p.offerInterlock
  (Table.keys p.map.traps).foldl
    (fun q t =>
      match Table.get q.traps t with
      | none => q
      | some r => if r.state == .driving && r.hold == .separation then q.trySeparation t else q)
    armed

end Sys2Proof.Machine
end

