-- ==== Sys2Proof/Machine/Lists.lean ====
section
/-! DEFINITION. Joining and leaving expected-passage lists, a pig's entry to the run table and its removal (R50, R51, R62, R70,
R71, R88). -/

namespace Sys2Proof.Machine

/-- The identities of the run table in order, front first (R47). -/
def Part.order (p : Part) : List Nat := p.run.pigs.map (·.id)

/-- A list with an identity at the place the run table gives it (R70). -/
def insertOrdered (order : List Nat) (id : Nat) (l : List Nat) : List Nat := order.filter fun x => x == id || l.contains x

/-- A pig joins a station's list (R70). -/
def Part.joinStation (p : Part) (id n : Nat) : Part :=
  p.setAttr n fun a => { a with expected := insertOrdered p.order id a.expected }

/-- The part with one receiver's list replaced. -/
def Part.setAwaited (p : Part) (t : Nat) (l : List Nat) : Part :=
  { p with attr := { p.attr with receivers := Table.modify p.attr.receivers t fun _ => l } }

/-- A receiver's list takes a new content; the sequencer is told when its head has changed (R70, R71). -/
def Part.changeAwaited (p : Part) (t : Nat) (l : List Nat) : Part :=
  if l.head? == (p.awaited t).head? then p.setAwaited t l else (p.setAwaited t l).headChanged t

/-- A pig joins a receiver's list (R70). -/
def Part.joinReceiver (p : Part) (id t : Nat) : Part := p.changeAwaited t (insertOrdered p.order id (p.awaited t))

/-- A pig leaves a receiver's list (R71). -/
def Part.leaveReceiver (p : Part) (id t : Nat) : Part :=
  if (p.awaited t).contains id then p.changeAwaited t ((p.awaited t).filter (· != id)) else p

/-- The fix points whose lists a pig at P joins, in order of coordinate: the stations of its leg above P, then its receiver (R70). -/
def Part.fixPointsAhead (p : Part) (tag P legEnd : Nat) : List Point :=
  (p.map.stationsAhead tag P legEnd).map Point.station ++ [.trap legEnd]

/-- A pig joins the list of a fix point. -/
def Part.joinPoint (p : Part) (id : Nat) : Point → Part
  | .none => p
  | .station n => p.joinStation id n
  | .trap t => p.joinReceiver id t

/-- A pig leaves every expected-passage list and every unobserved list (R51, R65). -/
def Part.leaveEverything (p : Part) (id : Nat) : Part :=
  let q : Part :=
    { p with attr :=
      { p.attr with stations := Table.mapAll p.attr.stations fun _ (a : StationAttr) =>
          { a with expected := a.expected.filter (· != id), unobserved := a.unobserved.filter (· != id) } } }
  (Table.keys q.attr.receivers).foldl (fun r t => r.leaveReceiver id t) q

/-- A pig enters the run table at its place and joins its lists (R44, R50, R62). -/
def Part.enterPig (p : Part) (id tag : Nat) (kind : PigKind) (slip P legEnd : Nat) (point : Point) : Part :=
  let g : Pig :=
    { id, tag, kind, slip, rp := 0, P, M := 0, O := 0, fixAt := P, fixPoint := point, fixTime := p.stamp, legEnd,
      overdue := false, stuck := false, blocked := false, noMeter := p.unmetered P, stale := false, seq := p.run.nextSeq }
  (p.fixPointsAhead tag P legEnd).foldl (fun q x => q.joinPoint id x)
    { p with run := { p.run with pigs := insertPig g p.run.pigs, nextSeq := p.run.nextSeq + 1 } }

/-- A pig's entry leaves the run table, and the pig every list (R51, R65). -/
def Part.removeEntry (p : Part) (id : Nat) : Part :=
  { p with run := { p.run with pigs := p.run.pigs.filter fun g => g.id != id } }.leaveEverything id

/-- The release of the pigs that stood behind a removed entry, and the hand-on (R51, R57, R58). -/
def Part.closeGap (p : Part) (behind : List Nat) : Part := (releaseWalk behind p).handOn

end Sys2Proof.Machine
end

