-- ==== Sys2Proof/Machine/Attribution.lean ====
section
/-! DEFINITION. Passage attribution (chapter 4): confirmations with their slip update, snap and cascade, tag reads, trips,
recovery reports, the detector part of a report, and a station's going SILENT. -/

namespace Sys2Proof.Machine

/-! ## A confirmation (R79 to R83) -/

/-- The observed slip, 10000 − ⌊G × 10000 / M⌋ clamped to 0..2,500 (R80). -/
def observedSlip (G M : Nat) : Nat := min (10000 - G * 10000 / M) 2500

/-- The slip after the update: a quarter of the way to the observed slip, clamped to 0..2,500; unchanged when M is below Fmin or
is 0 (R80). -/
def slipUpdate (fmin s G M : Nat) : Nat :=
  if fmin ≤ M ∧ 0 < M then min ((3 * s + observedSlip G M + 2) / 4) 2500 else s

/-- A pig after the slip update and the snap to station x at coordinate vx (R80, R81). -/
def Part.snapped (p : Part) (g : Pig) (x vx : Nat) : Pig :=
  { p.movedTo g vx with
    slip := slipUpdate p.tuning.fmin g.slip (vx - g.fixAt) g.M
    M := 0, O := 0, fixAt := vx, fixPoint := .station x, fixTime := p.stamp
    overdue := false, stuck := false, stale := false, blocked := false }

/-- A pig leaves a station's list as MISSED: the entry and notice PIG MISSED (R77, R81). `M` is what the entry gives. -/
def Part.missed (p : Part) (g : Pig) (M n : Nat) : Part :=
  ((p.leaveStation n g.id).entry g.id .missed (.station n) (some g.P) (some M) g.slip).notify .pigMissed
    (some g.id) (some n) none []

/-- The stations on whose lists a pig stands at or below a coordinate, in order of coordinate. -/
def Part.passedStations (p : Part) (id upTo : Nat) : List Nat := (p.stationsOf id).filter fun n => p.map.stationCoord n ≤ upTo

/-- The snapped pig leaves the lists of the fix points below: MISSED at live stations, unobserved at SILENT ones (R81). -/
def Part.leaveBelow (p : Part) (g : Pig) (M : Nat) : Part :=
  (p.passedStations g.id g.P).foldl (fun q n => if q.isSilent n then q.passUnobserved g M n else q.missed g M n) p

/-- A raised pig leaves the lists of the fix points its new P has reached (R82). -/
def Part.leaveInferred (p : Part) (g : Pig) : Part :=
  (p.passedStations g.id g.P).foldl
    (fun q n =>
      if q.isSilent n then q.passUnobserved g g.M n
      else (q.leaveStation n g.id).entry g.id .passedByInference (.station n) (some g.P) (some g.M) g.slip)
    p

/-- The forward cascade over the identities in front, the nearest first, `floor` being the P of the pig behind; it answers the
identities raised, the front-most first (R82). -/
def cascade : List Nat → Nat → Part → List Nat → Part × List Nat
  | [], _, p, raised => (p, raised)
  | id :: rest, floor, p, raised =>
    match p.pig id with
    | none => (p, raised)
    | some i =>
      if i.P < floor then
        let up : Pig := { p.movedTo i floor with O := i.O - (floor - i.P) }
        cascade rest floor ((p.setPig up).leaveInferred up) (id :: raised)
      else (p, raised)

/-- Notice PASSAGE (R83, R87). -/
def Part.passageNotice (p : Part) (g : Pig) (x : Nat) (outcome : PassageOutcome) (raised : Nat) : Part :=
  p.notify .passage (some g.id) (some x) none
    [u8 outcome.code, u32 (p.map.chainageOf g.P), u16 g.slip, u32 raised]

/-- Attribution confirms a pig at a station: slip update, snap, own entry, cascade, releases and checks, notice PASSAGE,
hand-on (R79). In step 4 the raised pigs are released front-most first, the confirmed pig is checked, and then the pigs behind it are
released (log entry 43). -/
def Part.confirm (p : Part) (id x : Nat) (outcome : PassageOutcome) : Part :=
  match p.pig id with
  | none => p
  | some g =>
    let vx := p.map.stationCoord x
    let off := p.leaveStation x id
    let j := off.snapped g x vx
    let snapped := ((off.setPig j).leaveBelow j g.M).entry id outcome.entry (.station x) (some vx) (some g.M) j.slip
    let c := cascade (idsInFront snapped.run.pigs id) vx snapped []
    let released := (c.2.foldl Part.release c.1).checkPig id
    let settled := if g.P < vx then released.releaseBehind id else released
    (settled.passageNotice j x outcome c.2.length).handOn

/-! ## Tag reads and trips (R76 to R78) -/

/-- A section's running volume (R72). -/
def Part.runningOf (p : Part) (k : Nat) : Nat := (Table.get p.attr.running k).getD 0

/-- The running volume of the section that holds a station (R76). -/
def Part.volumeAt (p : Part) (x : Nat) : Nat := p.runningOf (p.map.sectionOf (p.map.stationCoord x))

/-- A station's last passage volume becomes its section's running volume (R76). -/
def Part.markPassage (p : Part) (x : Nat) : Part := p.setAttr x fun a => { a with lastPassage := some (p.volumeAt x) }

/-- Whether a pig of the run table carries a tag. -/
def Part.carries (p : Part) (t id : Nat) : Bool := (p.pig id).any fun g => g.tag == t

/-- The pigs in front of a tagged one leave the list as MISSED, the front one first; then each is released and the positions
handed on (R58, R77). -/
def Part.realign (p : Part) (x : Nat) (ids : List Nat) : Part :=
  let gone := ids.foldl (fun q id => q.onPig id fun r g => r.missed g g.M x) p
  ids.foldl (fun q id => (q.release id).handOn) gone

/-- A tag read outside a recovery match (R77). -/
def Part.tagRead (p : Part) (x t : Nat) : Part :=
  let q := p.markPassage x
  match (q.expected x).dropWhile (fun id => !q.carries t id) with
  | [] => q.notify .strayPassage none (some x) none [u16 t]
  | id :: _ => (q.realign x ((q.expected x).takeWhile fun i => !q.carries t i)).confirm id x .confirmedByTag

/-- A station's last passage volume as it stands (R76). -/
def Part.lastPassage (p : Part) (x : Nat) : Option Nat := (Table.get p.attr.stations x).bind (·.lastPassage)

/-- The double-trip test against a last passage volume (R76). -/
def Part.doubleTrip (p : Part) (x : Nat) (last : Option Nat) : Bool :=
  (p.driver (p.map.sectionOf (p.map.stationCoord x))).isSome &&
  match last, Table.get p.map.stations x with
  | some v, some s => decide (p.volumeAt x - v < s.rearm)
  | _, _ => false

/-- A head is approaching when P + U ≥ Vx (R78). -/
def Part.approaching (p : Part) (x : Nat) (g : Pig) : Bool := p.map.stationCoord x ≤ g.P + p.spread g

/-- A trip-only passage that R76 has taken goes to the head of the list, if it is approaching (R78). -/
def Part.attributeTrip (p : Part) (x : Nat) : Part :=
  match (p.expected x).head?.bind p.pig with
  | none => p.notify .unexpectedTrip none (some x) none []
  | some g =>
    if p.approaching x g then p.confirm g.id x (if g.tag = 0 then .confirmedByTrip else .unverified)
    else p.notify .unexpectedTrip (some g.id) (some x) none [u32 (p.map.stationCoord x - g.P - p.spread g)]

/-- A trip-only passage tested against a last passage volume: discarded as a double trip, or attributed (R76, R78). -/
def Part.tripOnly (p : Part) (x : Nat) (last : Option Nat) : Part :=
  if p.doubleTrip x last then p.setAttr x fun a => { a with doubles := satAdd max16 a.doubles 1 }
  else (p.markPassage x).attributeTrip x

/-! ## Recovery reports (R86, R87) -/

/-- A pig of the unobserved list is LATE CONFIRMED (R87). -/
def Part.lateConfirm (p : Part) (x id : Nat) : Part :=
  (p.setAttr x fun a => { a with unobserved := a.unobserved.filter (· != id) }).onPig id fun q g =>
    (q.entry id .lateConfirmed (.station x) (some g.P) (some g.M) g.slip).passageNotice g x .lateConfirmed 0

/-- A tag read, in a recovery report or not (R77, R87). -/
def Part.takeTag (recovery : Bool) (x : Nat) (p : Part) (t : Nat) : Part :=
  match (p.unobserved x).find? (p.carries t) with
  | some id => if recovery then p.lateConfirm x id else p.tagRead x t
  | none => p.tagRead x t

/-- The last passage volume that R76 tests a trip-only passage against: the one from before the silence in a recovery report, and else
the one that stands now (R76, R87). -/
def Part.testedVolume (p : Part) (recovery : Bool) (before : Option Nat) (x : Nat) : Option Nat :=
  if recovery then before else p.lastPassage x

/-- A trip-only passage, in a recovery report or not (R76, R78, R87). `before` is the last passage volume from before the report: one that
R87 hands on is tested against it, whatever earlier passages of the report have set since. -/
def Part.takeTrip (recovery : Bool) (before : Option Nat) (x : Nat) (p : Part) : Part :=
  match p.unobserved x with
  | id :: _ => if recovery then p.lateConfirm x id else p.tripOnly x (p.testedVolume recovery before x)
  | [] => p.tripOnly x (p.testedVolume recovery before x)

/-- `n` trip-only passages, one after another. -/
def Part.takeTrips (recovery : Bool) (before : Option Nat) (x : Nat) : Nat → Part → Part
  | 0, p => p
  | n + 1, p => Part.takeTrips recovery before x n (p.takeTrip recovery before x)

/-- A recovery report has been processed: the unobserved list is emptied, and recovery pending becomes no (R73, R87). -/
def Part.endRecovery (p : Part) (recovery : Bool) (x : Nat) : Part :=
  if recovery then p.setAttr x fun a => { a with unobserved := [], recovery := false } else p

/-! ## The detector part of a report (R73 to R75) -/

/-- The codes taken of a report's list: the last `ng` of it (R74). -/
def takenCodes (ng : Nat) (codes : List Nat) : List Nat := codes.drop (codes.length - ng)

/-- The new counts that a detector kind uses: taken codes but for 0, and the trips they leave (R74, R75). -/
def usedCounts (d : Detector) (nt ng : Nat) (codes : List Nat) : List Nat × Nat :=
  let tags := (takenCodes ng codes).filter (· != 0)
  match d with
  | .none => ([], 0)
  | .trip => ([], nt)
  | .tag => (tags, 0)
  | .both => (tags, nt - tags.length)

/-- TAG READS LOST, at a station whose kind uses tag reads (R74, R75, log entry 34). -/
def Part.reportLost (p : Part) (x : Nat) (d : Detector) (ng : Nat) (codes : List Nat) : Part :=
  if (d == .tag || d == .both) && decide (codes.length < ng) then
    p.notify .tagReadsLost none (some x) none [u32 (ng - codes.length)]
  else p

/-- The new passages of a report at a station that has a list: tag reads first, then trip-only passages (R75). The station's last passage
volume is noted first, for the trips of a recovery report (R87). -/
def Part.passages (p : Part) (recovery : Bool) (x : Nat) (d : Detector) (nt ng : Nat) (codes : List Nat) : Part :=
  let used := usedCounts d nt ng codes
  Part.takeTrips recovery (p.lastPassage x) x used.2 (used.1.foldl (Part.takeTag recovery x) (p.reportLost x d ng codes))

/-- The detector part of a station's report (R73). That DETECTOR DISCONTINUITY is queued at a station without a list too is the model's
choice: R73 keeps its baselines current 'in the same way' and discards its counts 'without notice' (log entry 54). -/
def Part.detectorPart (p : Part) (x : Nat) (trip tag : Byte) (codes : List Nat) : Part :=
  match Table.get p.attr.stations x, Table.get p.map.stations x with
  | some a, some s =>
    let based := p.setAttr x fun b => { b with baseline := some (trip, tag) }
    match p.link.mode, a.baseline with
    | .setup, _ => based.endRecovery a.recovery x
    | _, none => based.endRecovery a.recovery x
    | _, some (trip0, tag0) =>
      let nt := (trip - trip0).toNat
      let ng := (tag - tag0).toNat
      if 128 < nt ∨ 128 < ng then
        (based.notify .detectorDiscontinuity none (some x) none
          [u8 trip0.toNat, u8 trip.toNat, u8 tag0.toNat, u8 tag.toNat]).endRecovery a.recovery x
      else if p.map.hasList x then (based.passages a.recovery x s.detector nt ng codes).endRecovery a.recovery x
      else based.endRecovery a.recovery x
  | _, _ => p

/-! ## A station's liveness (R84, R86) -/

/-- A station has become SILENT: the pigs on its list are released, from the front (R84). -/
def Part.silentRelease (p : Part) (x : Nat) : Part := (p.expected x).foldl (fun q id => (q.release id).handOn) p

/-- A station has left SILENT: its next report is its recovery report (R86). -/
def Part.pendRecovery (p : Part) (x : Nat) : Part := p.setAttr x fun a => { a with recovery := true }

end Sys2Proof.Machine
end

