-- ==== Sys2Proof/Machine/Meters.lean ====
section
/-! DEFINITION. The meter unit (chapter 2): health and the driving meter, counts and credits, section deltas, silence. -/

namespace Sys2Proof.Machine

/-! ## Driving meters (R35, R37) -/

/-- A meter's health. -/
def Part.health (p : Part) (n : Nat) : Health := ((Table.get p.meters.meters n).map (·.health)).getD .unbaselined

/-- The part with one meter's record changed. -/
def Part.setMeter (p : Part) (n : Nat) (f : MeterRec → MeterRec) : Part :=
  { p with meters := { p.meters with meters := Table.modify p.meters.meters n f } }

/-- The part with one section's record changed. -/
def Part.setSection (p : Part) (k : Nat) (f : SectionRec → SectionRec) : Part :=
  { p with meters := { p.meters with sections := Table.modify p.meters.sections k f } }

/-- The choice of a section's driver: its primary if HEALTHY, else its alternate if HEALTHY, else none (R35). -/
def Part.chooseDriver (p : Part) (k : Nat) : Option Nat :=
  match Table.get p.map.sections k with
  | none => none
  | some s =>
    if p.health s.primary = .healthy then some s.primary else s.alternate.filter fun a => p.health a == .healthy

/-- The pigs whose P lies in a section's range changed by a function (R37). -/
def Part.markSection (p : Part) (k : Nat) (f : Pig → Pig) : Part :=
  { p with run := { p.run with pigs := p.run.pigs.map fun g => if p.map.sectionOf g.P = k then f g else g } }

/-- A section's driver is chosen afresh, with what follows a loss or a gain (R35, R37). -/
def Part.rechoose (p : Part) (k : Nat) : Part :=
  match Table.get p.meters.sections k with
  | none => p
  | some r =>
    let q := p.setSection k fun x => { x with driver := p.chooseDriver k }
    match r.driver, p.chooseDriver k with
    | some _, none =>
      (q.notify .sectionNoMeter none none none [u8 k]).markSection k fun g => { g with noMeter := true }
    | none, some m =>
      if r.meteredSince then
        (q.notify .sectionMeterRestored none none none [u8 k, u8 m]).markSection k fun g =>
          { g with noMeter := false, stale := true }
      else (q.setSection k fun x => { x with meteredSince := true }).markSection k fun g => { g with noMeter := false }
    | _, _ => q

/-- A meter takes a health, and the driver of the section that names it is chosen afresh (R35). -/
def Part.changeHealth (p : Part) (n : Nat) (h : Health) : Part :=
  let q := p.setMeter n fun m => { m with health := h, plausible := 0 }
  match p.map.sectionNaming n with
  | none => q
  | some k => q.rechoose k.1

/-! ## Counts (R28 to R32) -/

/-- The count delta modulo 2^b (R30). -/
def countDelta (b last r : Nat) : Nat := (r + 2 ^ b - last) % 2 ^ b

/-- A count is a discontinuity when its delta is above half the range (R30). -/
def discontinuous (b d : Nat) : Bool := 2 ^ (b - 1) < d

/-- Millilitres to scale: d × w + residue (R31). -/
def creditTotal (d w residue : Nat) : Nat := d * w + residue

/-- A meter's record after a plausible count d has been credited (R31). -/
def MeterRec.credit (m : MeterRec) (d w r : Nat) : MeterRec :=
  { m with
    residue := creditTotal d w m.residue % 1000
    totaliser := m.totaliser + creditTotal d w m.residue / 1000
    counts := m.counts + d
    lastCount := some r }

/-- A section delta of the meter unit: to the running volume, and then to the held volume in FROZEN or to the run table, with
the hand-on (R36, R39, R57, R76). -/
def Part.sectionDelta (p : Part) (k dv : Nat) : Part :=
  let q : Part := { p with attr := { p.attr with running := Table.modify p.attr.running k (· + dv) } }
  match p.link.mode with
  | .frozen => q.setSection k fun s => { s with held := satAdd max32 s.held dv }
  | _ => (q.advance k dv).handOn

/-- The credit of a meter that drives its section becomes the section's delta (R36); the last credit keeps to its 32-bit range as the
delta does (R34, log entry 40). -/
def Part.driveSection (p : Part) (n litres : Nat) (interval : Nat) : Part :=
  match p.map.sectionNaming n with
  | none => p
  | some k =>
    if p.driver k.1 = some n then
      (p.setSection k.1 fun s => { s with lastCredit := min litres max32, lastInterval := interval }).sectionDelta
        k.1 (min litres max32)
    else p

/-- The milliseconds from a meter's last report stamp before the report to now (R36). That they are 0 when it had none, for a meter that a
report both baselines and drives by, is the model's choice (log entry 46). -/
def intervalSince (now : Tick) (stamp : Option Tick) : Nat :=
  match stamp with
  | none => 0
  | some t => (now - t).toNat

/-- A plausible count of a meter (R31, R32, R36). `since` is the meter's last report stamp as it stood before this report. -/
def Part.plausibleCount (p : Part) (n : Nat) (m : Meter) (rec : MeterRec) (since : Option Tick) (d r : Nat) (now : Tick) : Part :=
  let q := p.setMeter n fun x => { x.credit d m.weight r with stamp := some now }
  match rec.health with
  | .suspect =>
    if rec.plausible + 1 = 2 then q.changeHealth n .healthy
    else q.setMeter n fun x => { x with plausible := rec.plausible + 1 }
  | _ => q.driveSection n (creditTotal d m.weight rec.residue / 1000) (intervalSince now since)

/-- A discontinuity (R30). -/
def Part.discontinuity (p : Part) (n : Nat) (m : Meter) (rec : MeterRec) (r : Nat) (now : Tick) : Part :=
  let q := (p.setMeter n fun x => { x with lastCount := some r, health := .suspect, plausible := 0, stamp := some now }).notify
    .meterDiscontinuity none (some m.station) none [u8 n, u32 (rec.lastCount.getD 0), u32 r]
  if rec.health = .healthy then q.changeHealth n .suspect else q

/-- A count of a meter, masked, acted on according to its health (R28 to R32). `since` is the meter's last report stamp as it stood before
this report (R36). -/
def Part.takeCount (p : Part) (n : Nat) (m : Meter) (rec : MeterRec) (since : Option Tick) (raw : Nat) (now : Tick) : Part :=
  let r := raw % 2 ^ m.width
  match rec.health with
  | .unbaselined => (p.setMeter n fun x => { x with lastCount := some r, stamp := some now }).changeHealth n .healthy
  | .silent => p.setMeter n fun x => { x with stamp := some now }
  | .healthy | .suspect =>
    let d := countDelta m.width (rec.lastCount.getD 0) r
    if discontinuous m.width d then p.discontinuity n m rec r now else p.plausibleCount n m rec since d r now

/-- A meter's last report stamp in a table of meter records. -/
def stampIn (records : Table MeterRec) (n : Nat) : Option Tick := (Table.get records n).bind (·.stamp)

/-- One entry of a report's meter part (R28). `before` holds the meter records as they stood before the report (R36). -/
def Part.meterEntry (before : Table MeterRec) (x : Nat) (p : Part) (e : Nat × Nat) : Part :=
  match Table.get p.map.meters e.1, Table.get p.meters.meters e.1 with
  | some m, some rec =>
    if m.station = x then p.takeCount e.1 m rec (stampIn before e.1) e.2 p.clocks.tick
    else p.notify .meterNotInMap none (some x) none [u8 e.1]
  | _, _ => p.notify .meterNotInMap none (some x) none [u8 e.1]

/-- The meter part of a station's report, entry by entry, each interval measured from the stamp before the report (R28, R36). That an entry
of a meter listed again drives its section once an earlier entry of the same report has made the meter HEALTHY, by its baseline or by
the second of its two plausible counts, is the model's choice, where R29 and R32 speak of the next report (log entry 46). -/
def Part.meterPart (p : Part) (x : Nat) (es : List (Nat × Nat)) : Part := es.foldl (Part.meterEntry p.meters.meters x) p

/-! ## Silence (R33) -/

/-- The meters configured at a station, in index order. That the meters of a station that goes SILENT or leaves SILENT change in this
order, which is the order of several SECTION NO METER notices, is the model's choice (R33 gives none; log entry 45). -/
def Part.metersAt (p : Part) (x : Nat) : List Nat := (p.map.meters.filter fun e => e.2.station == x).map Prod.fst

/-- A station has become SILENT: so do its meters (R33). -/
def Part.metersSilent (p : Part) (x : Nat) : Part := (p.metersAt x).foldl (fun q n => q.changeHealth n .silent) p

/-- A station has left SILENT: its SILENT meters become UNBASELINED (R33). -/
def Part.metersLeaveSilent (p : Part) (x : Nat) : Part :=
  ((p.metersAt x).filter fun n => p.health n == .silent).foldl (fun q n => q.changeHealth n .unbaselined) p

end Sys2Proof.Machine
end

