-- ==== Sys2Proof/Machine/TrapReports.lean ====
section
/-! DEFINITION. What a station's report brings to the traps and the valves: barrel trips that launch and receive pigs (R107, R114),
the trap part (R109), the valve part (R136, R152). -/

namespace Sys2Proof.Machine

/-! ## Barrel trips (R107, R114) -/

/-- A barrel trip that belongs to no pig (R107, R114). -/
def Part.strayTrip (p : Part) (t : Nat) : Part := p.notify .strayPassage none (p.trapStation t) (some t) []

/-- Whether a launcher's barrel trip launches the pig in its holding: step OPENING or DRIVING, or RESTORING with abort yes
(R107). -/
def TrapRec.launches (r : TrapRec) : Bool :=
  r.step == some .opening || r.step == some .driving || (r.state == .restoring && r.abort)

/-- A held pig leaves the launcher's holding and enters the run table at V_L, its reservation turned into the entry (R50). -/
def Part.enterLaunched (p : Part) (t : Nat) (h : HeldPig) : Part :=
  let vl := p.map.trapCoord t
  let q := p.setTrap t fun r =>
    { r with holding := none, launched := some h.id
             deadline := if r.state == .driving then none else r.deadline
             hold := if r.hold == .separation then .none else r.hold }
  { q with run := { q.run with reservations := q.run.reservations.filter (· != t) } }.enterPig
    h.id h.tag h.kind h.slip vl (((p.map.launcherEnd vl).map Prod.fst).getD 0) (.trap t)

/-- The launch trip: the entry, the record, notice PIG LAUNCHED, the checks and the hand-on; then the sequence goes on as its state
requires (R107, R105, R106; the order is log entry 24). -/
def Part.launchTrip (p : Part) (t : Nat) (r : TrapRec) (h : HeldPig) : Part :=
  let entered := ((p.enterLaunched t h).locate h.id .inLine).entry h.id
    (if r.abort then .launchedDuringAbort else .launched) (.trap t) (some (p.map.trapCoord t)) (some 0) h.slip
  let told := ((entered.notify .pigLaunched (some h.id) (p.trapStation t) (some t) []).checkPig h.id).handOn
  match r.state with
  | .driving => (told.withdraw t).judge t
  | .opening => told.judge t
  | _ => told

/-- Whether a receiver's barrel trip receives the head of its list: WAITING, FAULT or SUSPENDED at WAITING, or RESTORING with
abort yes (R114). -/
def TrapRec.receives (r : TrapRec) : Bool :=
  r.state == .waiting || ((r.state == .fault || r.state == .suspended) && r.step == some .waiting)
    || (r.state == .restoring && r.abort)

/-- The receive trip: the pig leaves the table for the holding, with its record and notice PIG RECEIVED; a WAITING receiver becomes
RESTORING (R51, R114; the order is log entry 25). -/
def Part.receiveTrip (p : Part) (t : Nat) (r : TrapRec) (g : Pig) : Part :=
  let behind := idsBehind p.run.pigs g.id
  let held := p.setTrap t fun x =>
    { x with holding := some { id := g.id, tag := g.tag, kind := g.kind, slip := g.slip }
             result := some .received, target := none }
  let recorded := ((held.removeEntry g.id).entry g.id .received (.trap t) (some g.P) (some g.M) g.slip).locate g.id (.inTrap t)
  let told := (recorded.notify .pigReceived (some g.id) (p.trapStation t) (some t)
    [u32 g.P, u32 (p.map.trapCoord t - g.P)]).closeGap behind
  if r.state == .waiting then told.toRestoring t else told

/-- One barrel trip at a trap (R107, R114). -/
def Part.barrelTrip (p : Part) (t : Nat) : Part :=
  match Table.get p.traps t, p.roleOf t with
  | some r, some .launcher =>
    match r.holding with
    | some h => if r.launches then p.launchTrip t r h else p.strayTrip t
    | none => p.strayTrip t
  | some r, some .receiver =>
    match r.holding, p.headPig t with
    | none, some g => if r.receives then p.receiveTrip t r g else p.strayTrip t
    | _, _ => p.strayTrip t
  | _, _ => p

/-- `n` barrel trips, each carried through before the next (R109). -/
def Part.barrelTrips (t : Nat) : Nat → Part → Part
  | 0, p => p
  | n + 1, p => Part.barrelTrips t n (p.barrelTrip t)

/-! ## The trap part (R109) -/

/-- The equalised indication of a trap entry (R105, R109). -/
def Part.takeEqualised (p : Part) (t : Nat) (equalised : Bool) : Part :=
  if equalised && p.trapState t == .equalising then (p.setTrap t fun r => { r with eqSeen := true }).judge t else p

/-- The barrel trip counter of a trap entry (R109). -/
def Part.takeBarrel (p : Part) (x t : Nat) (counter : Byte) : Part :=
  match (Table.get p.traps t).bind (·.barrel) with
  | none => p.setTrap t fun r => { r with barrel := some counter }
  | some old =>
    let q := p.setTrap t fun r => { r with barrel := some counter }
    if p.link.mode = .setup then q
    else if 128 < (counter - old).toNat then
      q.notify .detectorDiscontinuity none (some x) (some t) [u8 old.toNat, u8 counter.toNat]
    else Part.barrelTrips t (counter - old).toNat q

/-- One entry of a report's trap part (R109). That TRAP NOT IN MAP carries the index as the first byte of its detail, its trap field absent,
is the model's choice (log entry 50). -/
def Part.trapEntry (x : Nat) (p : Part) (e : Nat × Byte × Bool) : Part :=
  if p.trapStation e.1 = some x then (p.takeEqualised e.1 e.2.2).takeBarrel x e.1 e.2.1
  else p.notify .trapNotInMap none (some x) none [u8 e.1]

/-! ## The valve part (R136, R152) -/

/-- The position of a valve entry: in percent as it came, or expanded through the valve's actuator table (R152). -/
def Part.expand (p : Part) (v : Valve) (coded : Bool) (raw : Nat) : Nat :=
  if coded then (p.map.actuators.get v.actuator).getD (raw % 16) 0 else raw

/-- Whether a position has reached an action (R136). -/
def reached (action : Action) (target : Option Nat) (position : Nat) : Bool :=
  match action with
  | .opening => 98 ≤ position
  | .closing => position ≤ 2
  | .throttle =>
    match target with
    | none => false
    | some t => decide (position ≤ t + 3) && decide (t ≤ position + 3)

/-- What an entry ends a SENT and acknowledged command with, if anything (R136). -/
def judgeEntry (c : Cmd) (state : ValveState) (position : Nat) : Option CmdEnd :=
  match state with
  | .fault => some (.failed .valveFault)
  | .localCtl => some (.failed .valveRejected)
  | .remote => if reached c.action c.target position then some .complete else none

/-- One entry of a report's valve part (R136). -/
def Part.valveEntry (x : Nat) (coded : Bool) (p : Part) (e : ValveEntry) : Part :=
  match p.map.valve x e.slot with
  | none => p.notify .valveNotInMap none (some x) none [u8 e.slot]
  | some v =>
    let position := min (p.expand v coded e.raw) 100
    let rec' : ValveRec := { position := some position, state := some e.state, time := some p.stamp }
    let q : Part := { p with cmds := { p.cmds with valves := Table.put p.cmds.valves (valveKey x e.slot) rec' } }
    match p.cmds.find x e.slot with
    | none => q
    | some c =>
      if c.sent && c.acked then
        match judgeEntry c e.state position with
        | none => q
        | some ended => q.endCmd c ended
      else q

end Sys2Proof.Machine
end

