-- ==== Sys2Proof/Machine/SectionPorts.lean ====
section
/-! DEFINITION. The section ports (chapter 8): the watch set, the choice of a transaction, sending, failed attempts, a station's
going SILENT and coming back, reports handed on, ACK and NAK, the port reset. -/

namespace Sys2Proof.Machine

/-! ## The watch set (R146) -/

/-- A port's committed roster record (R141). -/
def Part.rosterOf (p : Part) (i : Fin 4) : Roster := p.map.rosters.get i

/-- Whether some pig of a list has P + U at or above a coordinate (R146). -/
def Part.comesWithin (p : Part) (ids : List Nat) (v : Nat) : Bool :=
  ids.any fun id => (p.pig id).any fun g => v ≤ g.P + p.spread g

/-- Whether a station is to be watched: not SILENT, and a pig near enough to it or to a receiver there, or a sequence in progress
at a trap there (R146). -/
def Part.watched (p : Part) (x : Nat) : Bool :=
  !p.isSilent x &&
  (p.comesWithin (p.expected x) (p.map.stationCoord x)
    || p.map.traps.any fun e =>
        e.2.station == x &&
          ((p.trapState e.1).inProgress
            || (e.2.role == .receiver && p.comesWithin (p.awaited e.1) (p.map.trapCoord e.1))))

/-- A port's watch set (R146). That it stands, and is sent by QUERY PORT, in roster order is the model's choice: R146 and R156 give no
order (log entry 16). -/
def Part.watchSet (p : Part) (i : Fin 4) : List Nat := (p.rosterOf i).stations.filter p.watched

/-- A roster from the place after a station on, wrapping, the station itself last (R145). -/
def rosterAfter (roster : List Nat) (pointer : Option Nat) : List Nat :=
  match pointer with
  | none => roster
  | some x => (roster.dropWhile (· != x)).tail ++ roster.takeWhile (· != x) ++ roster.filter (· == x)

/-! ## Choosing and sending (R145, R147) -/

/-- A port sends a frame: the transaction is being transmitted. -/
def Part.send (p : Part) (i : Fin 4) (t : Txn) : Part :=
  p.setPort i fun r => { r with txn := some { t with parts := [], partCount := 0, phase := .sending }, gap := none }

/-- A frame's transmission on a port's line has ended, whole or cut off (R141, R147). -/
def Part.emit (p : Part) (i : Fin 4) (frame : SecFrame) (whole : Bool) : Part :=
  { p with out := { p.out with lines := p.out.lines ++ [{ port := i, frame, whole }] } }

/-- The frame a port is transmitting. -/
def PortRec.transmitting (r : PortRec) : Option SecFrame :=
  match r.txn with
  | none => none
  | some t =>
    match t.phase with
    | .sending => some t.frame
    | .awaiting _ | .retryDue => none

/-- A port's transaction is about to be abandoned: a frame it is transmitting is cut off (R141). -/
def Part.cutOff (p : Part) (i : Fin 4) : Part :=
  match (p.port i).transmitting with
  | none => p
  | some f => p.emit i f false

/-- Every port's transaction is about to be abandoned (R141). -/
def Part.cutOffAll (p : Part) : Part := ([0, 1, 2, 3] : List (Fin 4)).foldl Part.cutOff p

/-- A new poll transaction. -/
def pollTxn (x : Nat) (ordinary : Bool) : Txn :=
  { sentKind := .poll, station := x, slot := none, frame := pollFrame x, ordinary, attempt := 0, parts := [], partCount := 0,
    phase := .sending }

/-- A new COMMAND transaction. -/
def commandTxn (c : Cmd) : Txn :=
  { sentKind := .command, station := c.station, slot := some c.slot, frame := commandFrame c, ordinary := false, attempt := 0,
    parts := [], partCount := 0, phase := .sending }

/-- The record of a command taken from the queue: SENT, not acknowledged, last in the order of sending (R135). -/
def CmdTable.markSent (t : CmdTable) (c : Cmd) : CmdTable :=
  { t with cmds := (t.drop c.station c.slot).cmds ++ [{ c with sent := true, acked := false }] }

/-- A port sends a command: the record becomes SENT and leaves the queue, whose place is offered (R134, R135). -/
def Part.sendCmd (p : Part) (i : Fin 4) (c : Cmd) : Part :=
  ((({ p with cmds := p.cmds.markSent c }).setPort i fun r => r.unqueue (c.station, c.slot)).offerPort i).send i (commandTxn c)

/-- The front-most pig for which the interlock stops a command at sending; none for an ESD command (R135). -/
def Part.nearAtSending (p : Part) (c : Cmd) : Option Pig :=
  match c.cls with
  | .esd => none
  | .normal => (p.interlockPigs c.station c.slot c.action (p.originPig c.origin)).head?

/-- A command that the interlock stops at sending leaves the queue and the table: a host command ends with VALVE FAILED, a sequence
command becomes a held entry (R135). -/
def Part.turnBack (p : Part) (c : Cmd) (g : Pig) : Part :=
  let q := p.dropCmd c
  match c.origin with
  | .host => ((q.offerFreed c).valveFailed c .pigNear (some g.id)).autoArmNaming c.station c.slot
  | .sequence t =>
    (q.hold { trap := t, station := c.station, slot := c.slot, action := c.action, target := c.target,
              cause := .interlock }).offerFreed c

/-- The port takes commands from the front of its queue until one is sent or the queue is empty; the flag says whether one was
sent (R135, R145). -/
def Part.takeCommand (i : Fin 4) : Nat → Part → Part × Bool
  | 0, p => (p, false)
  | fuel + 1, p =>
    match (p.port i).queue with
    | [] => (p, false)
    | v :: _ =>
      match p.cmds.find v.1 v.2 with
      | none => Part.takeCommand i fuel (p.setPort i fun r => r.unqueue v)
      | some c =>
        match p.nearAtSending c with
        | some g => Part.takeCommand i fuel (p.turnBack c g)
        | none => (p.sendCmd i c, true)

/-- The port polls the station at its cycle position and moves the position on (R145). -/
def Part.ordinaryPoll (p : Part) (i : Fin 4) : Part :=
  let roster := (p.rosterOf i).stations
  match roster[(p.port i).cycle]? with
  | none => p
  | some x => (p.setPort i fun r => { r with cycle := (r.cycle + 1) % roster.length }).send i (pollTxn x true)

/-- A watched poll when one is due and the watch set is not empty, else an ordinary poll (R145). -/
def Part.choosePoll (p : Part) (i : Fin 4) : Part :=
  let q := p.setPort i fun r => { r with watchDue := false }
  if (p.port i).watchDue then
    match (rosterAfter (p.rosterOf i).stations (p.port i).watchPtr).filter p.watched with
    | x :: _ => (q.setPort i fun r => { r with watchPtr := some x }).send i (pollTxn x false)
    | [] => q.ordinaryPoll i
  else p.ordinaryPoll i

/-- The commands that a port could take at one choice: those queued and those held. -/
def Part.takeFuel (p : Part) (i : Fin 4) : Nat := (p.port i).queue.length + p.cmds.held.length + 1

/-- The port's choice when no retry is due: a command, else a poll (R145). -/
def Part.chooseFresh (p : Part) (i : Fin 4) : Part :=
  let c := Part.takeCommand i (p.takeFuel i) p
  if c.2 then c.1 else c.1.choosePoll i

/-- The port's choice (R145): a retry first; nothing while a transaction is under way. -/
def Part.choose (p : Part) (i : Fin 4) : Part :=
  match (p.port i).txn with
  | none => p.chooseFresh i
  | some t =>
    match t.phase with
    | .retryDue => p.send i { t with attempt := t.attempt + 1 }
    | .sending | .awaiting _ => p

/-- Every port makes its first choice after a restart or a commit, with no gap to run (R145, log entry 44). -/
def Part.chooseAll (p : Part) : Part := ([0, 1, 2, 3] : List (Fin 4)).foldl Part.choose p

/-- The port ends its transmission: the frame has gone out whole, and the reply deadline starts (R147). -/
def Part.transmitDone (p : Part) (i : Fin 4) : Part :=
  match (p.port i).txn with
  | none => p
  | some t =>
    match t.phase with
    | .sending =>
      (p.emit i t.frame true).setPort i fun r =>
        { r with txn := some { t with phase := .awaiting (p.after (p.rosterOf i).replyTimeout) } }
    | .awaiting _ | .retryDue => p

/-! ## Ends of transactions, liveness (R144, R149, R150, R155) -/

/-- The part with one station's liveness record changed. -/
def Part.setLive (p : Part) (x : Nat) (f : StationLive → StationLive) : Part :=
  { p with ports := { p.ports with stations := Table.modify p.ports.stations x f } }

/-- A transaction ends: none in flight, the poll gap runs, and watch due becomes yes after an ordinary poll (R145). -/
def Part.endTxn (p : Part) (i : Fin 4) (t : Txn) : Part :=
  p.setPort i fun r =>
    { r with txn := none, gap := some (p.after (p.rosterOf i).pollGap), watchDue := r.watchDue || t.ordinary }

/-- The last-failure record takes a failure (R155). -/
def Part.recordFailure (p : Part) (i : Fin 4) (t : Txn) (kind : FailKind) : Part :=
  p.setPort i fun r =>
    { r with
      lastFailure := some { station := t.station, kind, frame := t.sentKind, attempt := t.attempt, time := p.stamp } }

/-- The retry limit of a transaction: 0 to a SILENT station (R150). -/
def Part.retryLimit (p : Part) (i : Fin 4) (x : Nat) : Nat := if p.isSilent x then 0 else (p.rosterOf i).retryLimit

/-- The command of a COMMAND transaction, if it is still in the table (R154). -/
def Part.txnCmd (p : Part) (t : Txn) : Option Cmd :=
  match t.slot with
  | none => none
  | some slot => (p.cmds.find t.station slot).filter fun c => c.sent

/-- End a transaction's own command, if it is still in the table. -/
def Part.endTxnCmd (p : Part) (t : Txn) (e : CmdEnd) : Part :=
  match p.txnCmd t with
  | none => p
  | some c => p.endCmd c e

/-- A port's queued commands, in queue order. -/
def Part.queuedOn (p : Part) (i : Fin 4) : List Cmd := (p.port i).queue.filterMap fun v => p.cmds.find v.1 v.2

/-- The commands that pass a test on a port: the SENT ones in order of sending, then the QUEUED ones in queue order (R137). -/
def Part.cmdsInOrder (p : Part) (i : Fin 4) (pick : Cmd → Bool) : List Cmd :=
  (p.cmds.cmds.filter fun c => c.sent && pick c) ++ (p.queuedOn i).filter fun c => !c.sent && pick c

/-- The commands that end LINK FAILED when a port declares a transaction's station SILENT: the transaction's own, if it is still in the
table, then every other QUEUED or SENT command for the station (R137, R149, R154). -/
def Part.silencedCmds (p : Part) (i : Fin 4) (t : Txn) : List Cmd :=
  let own := p.txnCmd t
  own.toList ++ p.cmdsInOrder i fun c => c.station == t.station && own != some c

/-- The commands that RESET PORT ends LINK RESET: every SENT or QUEUED command of the port (R137, R158). -/
def Part.portCmds (p : Part) (i : Fin 4) : List Cmd := p.cmdsInOrder i fun c => c.port == i

/-- The port declares a station SILENT (R149). Step 4 ends the commands that stand in the table then; one that their ends place (a held
entry offered, a receiver that auto-arms, a restoring command) stays, which R137 says of held entries and R149 does not say of the others:
that is the model's choice (log entry 49). -/
def Part.declareSilent (p : Part) (i : Fin 4) (t : Txn) (kind : FailKind) : Part :=
  let x := t.station
  let marked := p.setLive x fun l => { l with live := .silent, declaredSilent := some p.stamp }
  let told := (marked.notify .stationSilent none (some x) none [u8 i.val, u8 kind.code]).metersSilent x
  (told.endAll (told.silencedCmds i t) (.failed .linkFailed)).silentRelease x

/-- An attempt fails: it is recorded, and retried, the parts of its report discarded (R151), or the transaction ends at its limit (R149,
R150). -/
def Part.failAttempt (p : Part) (i : Fin 4) (t : Txn) (kind : FailKind) : Part :=
  let q := p.recordFailure i t kind
  if t.attempt < p.retryLimit i t.station then
    q.setPort i fun r =>
      { r with txn := some { t with parts := [], partCount := 0, phase := .retryDue }, gap := some (p.after (p.rosterOf i).pollGap) }
  else if p.isSilent t.station then (q.endTxn i t).endTxnCmd t (.failed .linkFailed)
  else (q.endTxn i t).declareSilent i t kind

/-- A station has left SILENT: the meter unit and attribution are told (R144). -/
def Part.leaveSilent (p : Part) (x : Nat) : Part := (p.metersLeaveSilent x).pendRecovery x

/-- The seconds a station was SILENT, modulo 2^32 (R150, R174). -/
def Part.silentSeconds (p : Part) (x : Nat) : Nat :=
  match (Table.get p.ports.stations x).bind (·.declaredSilent) with
  | none => 0
  | some s => (p.clocks.secs - s.secs).toNat

/-- A good reply makes its station ALIVE, with what a return from SILENT brings (R144, R150). -/
def Part.goodReply (p : Part) (i : Fin 4) (x : Nat) : Part :=
  let q := p.setLive x fun l => { l with live := .alive, lastGood := some p.stamp }
  if p.isSilent x then
    (q.notify .stationRecovered none (some x) none [u8 i.val, u32 (p.silentSeconds x)]).leaveSilent x
  else q

/-! ## Reports and answers (R148, R151, R153, R154) -/

/-- A part of a report, if it is present, goes to its owner. -/
def Part.handIf {α : Type} (p : Part) (o : Option α) (f : Part → α → Part) : Part :=
  match o with
  | none => p
  | some a => f p a

/-- A report's parts are handed on in their order (R153). -/
def Part.handParts (p : Part) (x : Nat) (r : Report) : Part :=
  (((p.handIf r.detector fun q d => q.detectorPart x d.1 d.2.1 d.2.2).handIf r.meters fun q es => q.meterPart x es).handIf
    r.valves fun q es => es.foldl (Part.valveEntry x r.coded) q).handIf r.traps fun q es => es.foldl (Part.trapEntry x) q

/-- A complete report is taken (R151, R153): a body that does not read is a BAD FRAME. -/
def Part.takeReport (p : Part) (i : Fin 4) (t : Txn) (body : List Byte) : Part :=
  match readReport body with
  | none => p.failAttempt i t .badFrame
  | some r => ((p.endTxn i t).goodReply i t.station).handParts t.station r

/-- A report frame that answers the poll: the next part in order, or a loss of the report (R151). -/
def Part.takePart (p : Part) (i : Fin 4) (t : Txn) (f : SecFrame) : Part :=
  if f.partNumber ≠ t.parts.length + 1 ∨ (t.parts ≠ [] ∧ f.partCount ≠ t.partCount) then p.failAttempt i t .partMissing
  else if f.partNumber < f.partCount then
    p.setPort i fun r =>
      { r with txn := some { t with parts := t.parts ++ [f.body], partCount := f.partCount,
                                    phase := .awaiting (p.after (p.rosterOf i).replyTimeout) } }
  else p.takeReport i t (t.parts ++ [f.body]).flatten

/-- The ACK of a command: acknowledged, and its deadline starts afresh (R135). -/
def Part.takeAck (p : Part) (i : Fin 4) (t : Txn) : Part :=
  let q := (p.endTxn i t).goodReply i t.station
  match q.txnCmd t with
  | none => q
  | some c => q.setCmd c.station c.slot fun x => { x with acked := true, deadline := q.strokeDeadline c.station c.slot }

/-- The NAK of a command: written to the last-failure record, and the command ends VALVE REJECTED (R135, R148, R155). -/
def Part.takeNak (p : Part) (i : Fin 4) (t : Txn) : Part :=
  (((p.recordFailure i t .nak).endTxn i t).goodReply i t.station).endTxnCmd t (.failed .valveRejected)

/-- A port's transaction when it awaits an answer. -/
def PortRec.awaits (r : PortRec) : Option Txn :=
  r.txn.filter fun t =>
    match t.phase with
    | .awaiting _ => true
    | .sending | .retryDue => false

/-- A frame ends on a section line (R148): an answer to the frame sent, a bad frame, or unsolicited. -/
def Part.lineFrame (p : Part) (i : Fin 4) (bytes : List Byte) : Part :=
  match (p.port i).awaits with
  | none => p
  | some t =>
    match checkFrame bytes with
    | none => p.failAttempt i t .badFrame
    | some f =>
      if f.station.toNat ≠ t.station then p.failAttempt i t .badFrame
      else
        match t.sentKind with
        | .poll => if f.kind = kindReport then p.takePart i t f else p.failAttempt i t .badFrame
        | .command =>
          if f.kind = kindAck then p.takeAck i t
          else if f.kind = kindNak then p.takeNak i t
          else p.failAttempt i t .badFrame

/-- The reply deadline expires: NO REPLY, or PART MISSING once a part has been taken (R149, R151). -/
def Part.replyExpired (p : Part) (i : Fin 4) (t : Txn) : Part :=
  p.failAttempt i t (if t.parts.isEmpty then .noReply else .partMissing)

/-! ## Port resets (R144, R158) -/

/-- A station is set to UNKNOWN; a station that was SILENT has left SILENT (R144). -/
def Part.makeUnknown (p : Part) (x : Nat) : Part :=
  let q := p.setLive x fun l => { l with live := .unknown }
  if p.isSilent x then q.leaveSilent x else q

/-- A port starts its cycle afresh (R141). -/
def PortRec.restart (r : PortRec) : PortRec := { r with txn := none, cycle := 0, watchDue := false, watchPtr := none, gap := none }

/-- A port abandons its transaction: what it is transmitting is cut off, and no gap runs (R141). -/
def Part.abandonTxn (p : Part) (i : Fin 4) : Part := (p.cutOff i).setPort i fun r => { r with txn := none, gap := none }

/-- A port starts afresh: the transaction abandoned, the port's commands ended LINK RESET, its stations UNKNOWN, its cycle afresh (R158
steps 1 to 4). -/
def Part.clearPort (p : Part) (i : Fin 4) : Part :=
  let q := p.abandonTxn i
  let ended := q.endAll (q.portCmds i) (.failed .linkReset)
  ((p.rosterOf i).stations.foldl Part.makeUnknown ended).setPort i PortRec.restart

/-- RESET PORT carried through: the port starts afresh and chooses its next transaction at once (R158). -/
def Part.resetPort (p : Part) (i : Fin 4) : Part := (p.clearPort i).choose i

end Sys2Proof.Machine
end

