-- ==== Sys2Proof/Machine/Restarts.lean ====
section
/-! DEFINITION. What a commit, a COLD restart, a loss of supply and a WARM restart set (R17, R24, R179, R180 and each block's own
table of restarts). -/

namespace Sys2Proof.Machine

/-! ## Records as a COLD restart or a commit sets them -/

/-- A meter's record at COLD (R26). -/
def freshMeter : MeterRec :=
  { health := .unbaselined, lastCount := none, plausible := 0, residue := 0, totaliser := 0, counts := 0, stamp := none }

/-- A section's record at COLD and commit (R34). -/
def freshSection : SectionRec := { driver := none, meteredSince := false, lastCredit := 0, lastInterval := 0, held := 0 }

/-- A station's attribution record at COLD and commit (R72), its list empty (R69). -/
def freshAttr : StationAttr :=
  { baseline := none, lastPassage := none, doubles := 0, recovery := false, unobserved := [], expected := [] }

/-- A trap's record at COLD and commit (R98). -/
def freshTrap : TrapRec :=
  { state := .empty, step := none, abort := false, holding := none, target := none, launched := none, cmds := [],
    eqSeen := false, hold := .none, deadline := none, lastFault := none, result := none, barrel := none, suppressed := none }

/-- A valve's record at COLD (R126). -/
def freshValve : ValveRec := { position := none, state := none, time := none }

/-- A station's liveness after a commit or a COLD restart: UNKNOWN when a roster holds it, else SILENT (R143, R144). -/
def MapCopy.startLive (m : MapCopy) (x : Nat) : Liveness := if (m.claims x).isEmpty then .silent else .unknown

/-- Passage attribution over a map, every list empty and every record fresh (R69, R72). -/
def MapCopy.freshAttribution (m : MapCopy) : Attribution :=
  { stations := Table.mapAll m.stations fun _ _ => freshAttr
    receivers := (m.traps.filter fun e => e.2.role == .receiver).map fun e => (e.1, [])
    running := Table.mapAll m.sections fun _ _ => 0 }

/-! ## Commit (R17, R24, R143) -/

/-- A meter's record at a commit: kept last count, masked to the new width, and stamp, the rest as at COLD (R26). -/
def MeterRec.commit (width : Nat) (old : Option MeterRec) : MeterRec :=
  match old with
  | none => freshMeter
  | some m => { freshMeter with lastCount := m.lastCount.map (· % 2 ^ width), stamp := m.stamp }

/-- A station's liveness record at a commit: the two times are kept for a station present before (R144). -/
def StationLive.commit (live : Liveness) (old : Option StationLive) : StationLive :=
  match old with
  | none => { live, lastGood := none, declaredSilent := none }
  | some l => { l with live }

/-- The commit is written to the bank that does not hold the current stored configuration; read back and found right, that bank
becomes the current one (R24). -/
def LineMap.store (l : LineMap) (b : Bank) (verified : Bool) : LineMap :=
  let written := if verified then some b else none
  match l.current with
  | some false =>
    { l with bank1 := written, current := if verified then some true else l.current
             storedCount := if verified then b.count else l.storedCount }
  | _ =>
    { l with bank0 := written, current := if verified then some false else l.current
             storedCount := if verified then b.count else l.storedCount }

/-- The line map after a commit that passed (R17 steps 2 to 4). -/
def LineMap.commit (l : LineMap) (verified : Bool) : LineMap :=
  let count := satAdd max32 l.commitCount 1
  { (l.store { map := l.working, count } verified) with
    committed := l.working, commitCount := count, checksum := l.working.checksum count }

/-- Every block after a commit that passed, the meters, the baselines, the held entries and the ports set as their chapters give (R17,
R126), and what a port was transmitting cut off (R141). -/
def Part.commitBlocks (p : Part) (verified : Bool) : Part :=
  let l := p.lineMap.commit verified
  let m := l.committed
  { p with
    lineMap := l
    meters :=
      { meters := Table.mapAll m.meters fun n c => MeterRec.commit c.width (Table.get p.meters.meters n)
        sections := Table.mapAll m.sections fun _ _ => freshSection }
    attr := m.freshAttribution
    traps := Table.mapAll m.traps fun _ _ => freshTrap
    cmds :=
      { p.cmds with
        held := []
        valves := Table.mapAll m.valves fun v _ => (Table.get p.cmds.valves v).getD freshValve }
    ports :=
      { port := p.ports.port.map fun r => { r.restart with queue := [] }
        stations := Table.mapAll m.stations fun n _ => StationLive.commit (m.startLive n) (Table.get p.ports.stations n) }
    out := p.cutOffAll.out }

/-- A commit that passed, after which each port makes its first choice (R17, R143, R145). -/
def Part.commit (p : Part) (verified : Bool) : Part := (p.commitBlocks verified).chooseAll

/-! ## COLD (R24, R179) -/

/-- The bank that a COLD restart loads: the one with the greater commit count among those that pass their check; the manual gives
no choice between equal counts (R24, log entry 15). -/
def newerBank (bank0 bank1 : Option Bank) : Option Bool :=
  match bank0, bank1 with
  | none, none => none
  | some _, none => some false
  | none, some _ => some true
  | some a, some b =>
    if a.count < b.count then some true else if b.count < a.count then some false else some Config.tieTakesSecondBank

/-- The bank chosen. -/
def LineMap.chosen (l : LineMap) : Option Bank :=
  match newerBank l.bank0 l.bank1 with
  | none => none
  | some false => l.bank0
  | some true => l.bank1

/-- The map and the commit count that a COLD restart starts with (R24). -/
def LineMap.loadedMap (l : LineMap) : MapCopy := (l.chosen.map (·.map)).getD emptyMap
/-- The commit count loaded. -/
def LineMap.loadedCount (l : LineMap) : Nat := (l.chosen.map (·.count)).getD 0

/-- The line map after a COLD restart (R24): the banks are read and not written. -/
def LineMap.load (l : LineMap) : LineMap :=
  { l with
    working := l.loadedMap, committed := l.loadedMap, commitCount := l.loadedCount
    checksum := l.loadedMap.checksum l.loadedCount, storedCount := l.loadedCount, current := newerBank l.bank0 l.bank1 }

/-- The mode after a COLD restart: TRACKING when a bank passed and its commit count is not 0 (R179). -/
def LineMap.coldMode (l : LineMap) : Mode := if l.loadedCount = 0 then .setup else .tracking

/-- Every block at its COLD values, over the map of the stored configuration, with the supply and the reset input as they stand (R179). -/
def Part.coldOver (l : LineMap) (mode : Mode) (power : Power) : Part :=
  { power
    clocks := { tick := 0, secs := 0, set := false, sub := 0 }
    link := { mode, rx := [], buffer := [], notices := [], overflow := 0, badFrames := 0, fullBuffers := 0,
              restartPending := false }
    lineMap := l
    meters :=
      { meters := Table.mapAll l.committed.meters fun _ _ => freshMeter
        sections := Table.mapAll l.committed.sections fun _ _ => freshSection }
    run := { pigs := [], reservations := [], nextSeq := 0 }
    attr := l.committed.freshAttribution
    traps := Table.mapAll l.committed.traps fun _ _ => freshTrap
    cmds := { cmds := [], held := [], valves := Table.mapAll l.committed.valves fun _ _ => freshValve }
    ports :=
      { port := Four.all coldPort
        stations := Table.mapAll l.committed.stations fun n _ =>
          StationLive.commit (l.committed.startLive n) none }
    records := { active := [], completed := [], cursor := .closed, nextSerial := 0 }
    out := { replies := [], lines := [] } }

/-- A COLD restart under supply, after which each port makes its first choice (R145, R179). The reset input keeps its level: a part whose
input is held asserted stands stopped until the release, and its ports choose nothing (R179; that the level and its 50 ms are followed
across the application of supply is log entry 53). -/
def Part.coldRestart (p : Part) : Part :=
  let q := Part.coldOver p.lineMap.load p.lineMap.coldMode { supplied := true, resetInput := p.power.resetInput }
  if q.running then q.chooseAll else q

/-- A bank write in progress as the supply goes leaves the bank being written failing its check; a write can be in progress only
where MAP COMMIT could have passed (R24, log entry 7). -/
def Part.cutWrite (p : Part) (bankWrite : Bool) : LineMap :=
  if bankWrite && p.link.mode == .setup && p.cmds.cmds.isEmpty && p.lineMap.working.check.isNone then
    p.lineMap.store { map := p.lineMap.working, count := p.lineMap.commitCount } false
  else p.lineMap

/-- The supply is lost: all volatile state goes, the banks and the level of the reset input stay (R24, R179, log entries 7 and 53). -/
def Part.loseSupply (p : Part) (bankWrite : Bool) : Part :=
  Part.coldOver (p.cutWrite bankWrite).load (p.cutWrite bankWrite).coldMode { supplied := false, resetInput := p.power.resetInput }

/-! ## WARM (R123, R126, R141, R180) -/

/-- A step command at a WARM restart: HELD and PLACED become NOT ISSUED (R98). -/
def StepCmd.warm (c : StepCmd) : StepCmd :=
  match c.cond with
  | .held | .placed => { c with cond := .notIssued }
  | _ => c

/-- A trap's record at a WARM restart (R98, R123). -/
def TrapRec.warm (r : TrapRec) : TrapRec :=
  { r with
    state := if r.state.active then .suspended else r.state
    cmds := r.cmds.map StepCmd.warm, eqSeen := false, hold := .none, deadline := none }

/-- The traps that a WARM restart makes leave WAITING. -/
def Part.waitingTraps (p : Part) : List Nat := (p.traps.filter fun e => e.2.state == .waiting).map Prod.fst

/-- The number of active sequences. -/
def Part.activeCount (p : Part) : Nat := (p.traps.filter fun e => e.2.state.active).length

/-- Every station that a roster holds, in port order. -/
def MapCopy.rosterStations (m : MapCopy) : List Nat := m.rosters.toList.flatMap (·.stations)

/-- The blocks below the link at a WARM restart: the command table emptied, the sequences suspended, the ports afresh (R180). That the
receivers which so leave WAITING have their pigs tested in rising trap index, once every sequence is SUSPENDED, is the model's choice
(R93, log entry 42). -/
def Part.warmBlocks (p : Part) : Part :=
  let cleared : Part :=
    { p with cmds := { p.cmds with cmds := [], held := [] }, traps := Table.mapAll p.traps fun _ r => r.warm }
  let told := p.waitingTraps.foldl Part.waitingChanged cleared
  let ports : Part :=
    { told with
      ports := { told.ports with port := told.ports.port.map fun r => { r.restart with queue := [] } }
      out := told.cutOffAll.out }
  p.map.rosterStations.foldl Part.makeUnknown ports

/-- A WARM restart (R180): the blocks, the link, and then notice RESTARTED; each port then makes its first choice (R145). -/
def Part.warmRestart (p : Part) : Part :=
  let q := p.warmBlocks
  let linked : Part :=
    { q with link := { q.link with rx := [], buffer := [], restartPending := false }
             records := { q.records with cursor := .closed } }
  (linked.notify .restarted none none none
    [u8 p.link.mode.code, u32 p.activeCount, u32 p.cmds.cmds.length, u32 p.cmds.held.length]).chooseAll

end Sys2Proof.Machine
end

