-- ==== Sys2Proof/Machine/Operands.lean ====
section
/-! DEFINITION. The request frames of the supervisor link: how a request is taken and answered (R170), the modes it is open in
(R178), the fields of its body (R182), and the fields that several replies share. -/

namespace Sys2Proof.Machine

/-! ## Taking a request (R170) -/

/-- The link after it takes a frame: the oldest of the input buffer, or, with the buffer empty, the frame as it completes. None
when another frame stands in front or a WARM restart is pending (R170, R180, log entry 3). -/
def Link.takes (l : Link) (f : Frame) : Option Link :=
  if l.restartPending then none
  else
    match l.buffer with
    | [] => some l
    | g :: rest => if g = f then some { l with buffer := rest } else none

/-- Take a frame, if the part runs and the frame's turn has come. -/
def Part.taking (p : Part) (f : Frame) (act : Part → Part) : Part :=
  if p.running then
    match p.link.takes f with
    | none => p
    | some l => act { p with link := l }
  else p

/-- The frame of a request. -/
def requestFrame (kind : Nat) (tag : Byte) (body : List Byte) : Frame := { kind := BitVec.ofNat 8 kind, tag, body }

/-- A request after its kind is known: length, mode, then its owning block (R170). -/
def Part.handle (p : Part) (f : Frame) (lengthOk : Bool) (openIn : Mode → Bool) (act : Part → Frame → Part) : Part :=
  if !lengthOk then p.answer f .badLength []
  else if !openIn p.link.mode then p.answer f .mode []
  else act p f

/-- A request of a fixed body length (R170, R182). -/
def Part.request (p : Part) (kind : Nat) (tag : Byte) (body : List Byte) (length : Nat) (openIn : Mode → Bool)
    (act : Part → Frame → Part) : Part :=
  p.taking (requestFrame kind tag body) fun q => q.handle (requestFrame kind tag body) (body.length == length) openIn act

/-! ## Availability by mode (R178) -/

/-- Taken in every mode. -/
def everyMode (_ : Mode) : Bool := true

/-- Taken in SETUP alone. -/
def inSetup : Mode → Bool
  | .setup => true
  | .tracking | .frozen => false

/-- Taken in TRACKING alone. -/
def inTracking : Mode → Bool
  | .tracking => true
  | .setup | .frozen => false

/-- Taken in FROZEN alone. -/
def inFrozen : Mode → Bool
  | .frozen => true
  | .setup | .tracking => false

/-- Taken in TRACKING and FROZEN. -/
def running : Mode → Bool
  | .tracking | .frozen => true
  | .setup => false

/-! ## Body fields (R181, R182) -/

/-- The number in `n` bytes from an offset of a body. -/
def fieldAt (body : List Byte) (offset n : Nat) : Nat := leNat ((body.drop offset).take n)

/-- A field of a body that all ones makes absent (R182). -/
def optAt (body : List Byte) (offset n : Nat) : Option Nat :=
  if fieldAt body offset n = 256 ^ n - 1 then none else some (fieldAt body offset n)

/-! ## Reply fields -/

/-- A time of 4 bytes that may be absent: its range reaches all ones, so a presence byte precedes it (R182). -/
def timeOpt (s : Option Stamp) : Field := .pres 4 (s.map fun x => x.secs.toNat)

/-- A pig identity that may be absent (R182). -/
def pigOpt (id : Option Nat) : Field := .pres 2 id

/-- A list of one-byte indices after their number (log entry 16). -/
def listU8 (l : List Nat) : List Field := u8 l.length :: l.map u8

/-- A list of pig identities after their number (log entry 16). -/
def listPigs (l : List Nat) : List Field := u8 l.length :: l.map u16

/-- A list of fix points after their number, each as a kind byte and an index byte (R62, R64, log entry 16). -/
def listPoints (l : List Point) : List Field := u8 l.length :: l.flatMap Point.fields

/-- The milliseconds to a deadline, 0 once it has expired. -/
def Part.msTo (p : Part) (d : Tick) : Nat := if expired p.clocks.tick d then 0 else (d - p.clocks.tick).toNat

/-- The flags of a pig in the order of R44. -/
def Pig.flagByte (g : Pig) : Nat := flagSet [g.overdue, g.stuck, g.blocked, g.noMeter, g.stale]

/-! ## Meanings -/

/-- A command completes: the part becomes what the command's rule makes it; the queue of waiting commands is not its concern. -/
def goOn (s : State) (p : Part) : Host.Outcome State Fault Refusal := .next { s with part := p }

end Sys2Proof.Machine
end

