-- ==== Sys2Proof/Machine/PowerCommands.lean ====
section
/-! DEFINITION. Supply, reset input, and the restarts that they cause (R24, R179). -/

namespace Sys2Proof.Machine

/-- SUPPLY_APPLIED: a COLD restart, after which a part whose reset input is held stands stopped (R179, log entry 53). -/
def execSupplyApplied (s : State) : Host.Outcome State Fault Refusal := goOn s s.part.coldRestart

/-- The part with the reset input as given. -/
def Part.setReset (p : Part) (r : ResetInput) : Part := { p with power := { p.power with resetInput := r } }

/-- RESET_ASSERTED: the 50 ms hold begins, with or without supply (R179, log entry 53). -/
def execResetAsserted (s : State) : Host.Outcome State Fault Refusal :=
  goOn s (if s.part.power.resetInput == .released then s.part.setReset .asserted else s.part)

/-- RESET_HOLD_EXPIRY: the input has been held asserted for 50 ms, and the part stands stopped (R179). -/
def execResetHoldExpiry (s : State) : Host.Outcome State Fault Refusal :=
  goOn s (if s.part.power.resetInput == .asserted then s.part.setReset .held else s.part)

/-- RESET_RELEASED: under supply a COLD restart when the input had been held for 50 ms; otherwise no effect but the release (R179). -/
def execResetReleased (s : State) : Host.Outcome State Fault Refusal :=
  let freed := s.part.setReset .released
  goOn s (if s.part.power.supplied && s.part.power.resetInput == .held then freed.coldRestart else freed)

/-- LOSS_OF_SUPPLY: all volatile state goes, the banks stay, but for one being written (R24). -/
def execLossOfSupply (bankWrite : Bool) (s : State) : Host.Outcome State Fault Refusal :=
  goOn s (if s.part.power.supplied then s.part.loseSupply bankWrite else s.part)

end Sys2Proof.Machine
end

