-- ==== Sys2Proof/Machine/LinkCommands.lean ====
section
/-! DEFINITION. The supervisor link's own commands (chapter 10): frames, unknown kinds, IDENT, SET CLOCK, FETCH NOTICES, SET MODE,
RESTART and the WARM restart. -/

namespace Sys2Proof.Machine

/-! ## Frames (R168, R169) -/

/-- The part with its link changed by bytes or silence on the supervisor line; a stopped part takes no frame (R179). -/
def Part.onLink (p : Part) (f : Link → Link) : Part := if p.running then { p with link := f p.link } else p

/-- SUPERVISOR_FRAME: bytes arrive on the supervisor line (R168, R169). -/
def execSupervisorFrame (bytes : List Byte) (s : State) : Host.Outcome State Fault Refusal :=
  goOn s (s.part.onLink fun l => l.receive bytes)

/-- INTER_BYTE_TIMEOUT: the frame in progress is abandoned (R168). -/
def execInterByteTimeout (s : State) : Host.Outcome State Fault Refusal :=
  goOn s (s.part.onLink fun l => l.byteTimeout (l.rx.length + 1))

/-- The kinds that name a request (R182). -/
def requestKinds : List Nat :=
  [0x01, 0x02, 0x03, 0x04, 0x05, 0x10, 0x11, 0x12, 0x13, 0x14, 0x15, 0x16, 0x17, 0x20, 0x21, 0x22, 0x23, 0x30, 0x31, 0x32, 0x33,
   0x34, 0x40, 0x41, 0x42, 0x43, 0x44, 0x45, 0x46, 0x47, 0x50, 0x51, 0x60, 0x61, 0x62, 0x70, 0x71]

/-- UNKNOWN_REQUEST: a taken frame whose kind names no request (R170). -/
def execUnknownRequest (kind tag : Byte) (body : List Byte) (s : State) : Host.Outcome State Fault Refusal :=
  goOn s
    (if requestKinds.contains kind.toNat then s.part
    else s.part.taking { kind, tag, body } fun q => q.answer { kind, tag, body } .unknownRequest [])

/-! ## IDENT, SET CLOCK, FETCH NOTICES (R173 to R175) -/

/-- The part identity, as the text PRC-416 (R175; its bytes are log entry 16). -/
def identityField : Field := .val 7 (leNat [0x50, 0x52, 0x43, 0x2D, 0x34, 0x31, 0x36])

/-- The fields of IDENT's reply (R175). The major and the minor number of the revision take 1 byte each, a width that neither R175 nor R181
gives (log entry 16); their values are free (log entry 15). -/
def Part.identFields (p : Part) : List Field :=
  [identityField, u8 Config.firmwareMajor, u8 Config.firmwareMinor, u8 p.link.mode.code, u32 p.clocks.secs.toNat,
   flag p.clocks.set, u32 p.clocks.tick.toNat, u32 p.link.badFrames, u32 p.link.fullBuffers, u32 p.link.notices.length,
   u32 p.link.overflow]

/-- IDENT carried through (R175). -/
def Part.serveIdent (p : Part) (f : Frame) : Part := p.answer f .ok p.identFields

/-- IDENT (R175). -/
def execIdent (tag : Byte) (body : List Byte) (s : State) : Host.Outcome State Fault Refusal :=
  goOn s (s.part.request 0x01 tag body 0 everyMode Part.serveIdent)

/-- SET CLOCK carried through: the seconds clock takes the value, and is set; the tick is not touched (R174). -/
def Part.serveSetClock (p : Part) (f : Frame) : Part :=
  { p with clocks := { p.clocks with secs := BitVec.ofNat 32 (fieldAt f.body 0 4), set := true } }.answer f .ok
    [u32 p.clocks.secs.toNat, flag p.clocks.set]

/-- SET_CLOCK (R174). -/
def execSetClock (tag : Byte) (body : List Byte) (s : State) : Host.Outcome State Fault Refusal :=
  goOn s (s.part.request 0x02 tag body 4 everyMode Part.serveSetClock)

/-- The number of notices one FETCH NOTICES returns at most (R173). -/
def fetchLimit : Nat := 8

/-- The link after a fetch: the oldest notices removed, the overflow count 0 (R173). -/
def Link.fetched (l : Link) : Link := { l with notices := l.notices.drop fetchLimit, overflow := 0 }

/-- The fields of FETCH NOTICES' reply (R173, A.1). -/
def Link.fetchFields (l : Link) : List Field :=
  [u8 (l.notices.take fetchLimit).length, u8 (l.notices.drop fetchLimit).length, u16 l.overflow] ++
    (l.notices.take fetchLimit).flatMap Notice.fields

/-- FETCH NOTICES carried through (R173). -/
def Part.serveFetchNotices (p : Part) (f : Frame) : Part :=
  { p with link := p.link.fetched }.answer f .ok p.link.fetchFields

/-- FETCH_NOTICES (R173). -/
def execFetchNotices (tag : Byte) (body : List Byte) (s : State) : Host.Outcome State Fault Refusal :=
  goOn s (s.part.request 0x03 tag body 0 everyMode Part.serveFetchNotices)

/-! ## SET MODE (R176, R177) -/

/-- The working copy differs from the committed one (R9). -/
def LineMap.differs (l : LineMap) : Bool := l.working != l.committed

/-- The guard of SETUP to TRACKING (R177). -/
def LineMap.inForce (l : LineMap) : Bool := l.commitCount != 0 && !l.differs && l.commitCount == l.storedCount

/-- The number of traps that are not EMPTY (R177). -/
def Part.busyTraps (p : Part) : Nat := (p.traps.filter fun e => e.2.state != .empty).length

/-- The guard of TRACKING to SETUP (R177). -/
def Part.idle (p : Part) : Bool :=
  p.run.pigs.isEmpty && p.run.reservations.isEmpty && p.busyTraps == 0 && p.cmds.cmds.isEmpty && p.cmds.held.isEmpty

/-- A taken SET MODE. -/
def Part.turnTo (p : Part) (f : Frame) (m : Mode) : Part :=
  { p with link := { p.link with mode := m } }.answer f .ok [u8 m.code]

/-- SET MODE carried through (R176, R177). -/
def Part.serveSetMode (p : Part) (f : Frame) : Part :=
  match p.link.mode, Mode.ofCode (fieldAt f.body 0 1) with
  | _, none => p.answer f .range []
  | .setup, some .setup => p.turnTo f .setup
  | .setup, some .tracking => if p.lineMap.inForce then p.turnTo f .tracking else p.answer f .uncommitted []
  | .setup, some .frozen => p.answer f .mode []
  | .tracking, some .setup =>
    if p.idle then p.turnTo f .setup
    else p.answer f .notEmpty [u32 p.run.pigs.length, u32 p.busyTraps, u32 p.cmds.cmds.length]
  | .tracking, some .tracking => p.turnTo f .tracking
  | .tracking, some .frozen => p.turnTo f .frozen
  | .frozen, some .frozen => p.turnTo f .frozen
  | .frozen, some .setup => p.answer f .mode []
  | .frozen, some .tracking => p.answer f .mode []

/-- SET_MODE (R177). -/
def execSetMode (tag : Byte) (body : List Byte) (s : State) : Host.Outcome State Fault Refusal :=
  goOn s (s.part.request 0x04 tag body 1 everyMode Part.serveSetMode)

/-! ## RESTART (R180) -/

/-- RESTART carried through: its reply is formed, and the WARM restart is to follow (R180). -/
def Part.serveRestart (p : Part) (f : Frame) : Part :=
  { p with link := { p.link with restartPending := true } }.answer f .ok []

/-- RESTART (R180). -/
def execRestart (tag : Byte) (body : List Byte) (s : State) : Host.Outcome State Fault Refusal :=
  goOn s (s.part.request 0x05 tag body 0 everyMode Part.serveRestart)

/-- WARM_RESTART: once the RESTART reply has been sent (R180). -/
def execWarmRestart (s : State) : Host.Outcome State Fault Refusal :=
  goOn s (if s.part.running && s.part.link.restartPending then s.part.warmRestart else s.part)

end Sys2Proof.Machine
end

