-- ==== Sys2Proof/Machine/MapCommands.lean ====
section
/-! DEFINITION. The line map's requests (chapter 1) and ROSTER SET (R142). -/

namespace Sys2Proof.Machine

/-- A record in a reply: its identity, then its fields (log entry 16). -/
def recordReply (k : RecordKind) (key : Nat) (fs : List Field) : List Field := k.identity key :: fs

/-- The part with its working copy replaced. -/
def Part.edit (p : Part) (m : MapCopy) : Part := { p with lineMap := { p.lineMap with working := m } }

/-- The record kind that a byte of a body names. -/
def kindAt (body : List Byte) (offset : Nat) : Option RecordKind := RecordKind.ofCode (fieldAt body offset 1)

/-- The table key that two bytes of a body name. -/
def keyAt (k : RecordKind) (body : List Byte) (offset : Nat) : Nat :=
  k.key (body.getD offset 0) (body.getD (offset + 1) 0)

/-! ## MAP WRITE (R10) -/

/-- The length that MAP WRITE allows: 5 and the widths of the fields present; a kind without fields of its own needs the 5 bytes
(R182, log entry 28). -/
def mapWriteLength (body : List Byte) : Bool :=
  5 ≤ body.length &&
  match kindAt body 0 with
  | none | some .roster => true
  | some k => body.length == 5 + maskedSize k.widths (fieldAt body 3 2)

/-- The working copy after a MAP WRITE; none when it is refused RANGE (R10, R182). -/
def MapCopy.writeBody (m : MapCopy) (k : RecordKind) (body : List Byte) : Option MapCopy :=
  if 2 ^ k.widths.length ≤ fieldAt body 3 2 then none
  else (readMasked k.widths (fieldAt body 3 2) (body.drop 5)).bind fun fs => m.write k (keyAt k body 1) fs

/-- MAP WRITE carried through (R10). -/
def Part.serveMapWrite (p : Part) (f : Frame) : Part :=
  match kindAt f.body 0 with
  | none => p.answer f .range []
  | some k =>
    match p.lineMap.working.writeBody k f.body with
    | none => p.answer f .range []
    | some m => (p.edit m).answer f .ok (recordReply k (keyAt k f.body 1) ((m.recordFields k (keyAt k f.body 1)).getD []))

/-- MAP_WRITE (R10). -/
def execMapWrite (tag : Byte) (body : List Byte) (s : State) : Host.Outcome State Fault Refusal :=
  goOn s (s.part.taking (requestFrame 0x10 tag body) fun q =>
    q.handle (requestFrame 0x10 tag body) (mapWriteLength body) inSetup Part.serveMapWrite)

/-! ## MAP CLEAR and MAP DISCARD (R11) -/

/-- The kind code ALL of MAP CLEAR (A.1). -/
def clearAll : Nat := 9

/-- MAP CLEAR carried through (R11). -/
def Part.serveMapClear (p : Part) (f : Frame) : Part :=
  if fieldAt f.body 0 1 = clearAll then (p.edit emptyMap).answer f .ok []
  else
    match kindAt f.body 0 with
    | none => p.answer f .range []
    | some k =>
      if (p.lineMap.working.recordFields k (keyAt k f.body 1)).isSome then
        (p.edit (p.lineMap.working.clear k (keyAt k f.body 1))).answer f .ok []
      else p.answer f .noSuch []

/-- MAP_CLEAR (R11). -/
def execMapClear (tag : Byte) (body : List Byte) (s : State) : Host.Outcome State Fault Refusal :=
  goOn s (s.part.request 0x11 tag body 3 inSetup Part.serveMapClear)

/-- MAP DISCARD carried through (R11). -/
def Part.serveMapDiscard (p : Part) (f : Frame) : Part := (p.edit p.lineMap.committed).answer f .ok []

/-- MAP_DISCARD (R11). -/
def execMapDiscard (tag : Byte) (body : List Byte) (s : State) : Host.Outcome State Fault Refusal :=
  goOn s (s.part.request 0x12 tag body 0 inSetup Part.serveMapDiscard)

/-! ## MAP READ (R12) -/

/-- The record that MAP READ finds: the one named, or with NEXT the lowest at or above it (R12). -/
def MapCopy.findRecord (m : MapCopy) (k : RecordKind) (key : Nat) (next : Bool) : Option Nat :=
  if next then (m.keysOf k).find? fun x => key ≤ x else if (m.recordFields k key).isSome then some key else none

/-- The reply fields of a record read: its fields, and from the committed copy what the commit computed for it (R12). -/
def MapCopy.readFields (m : MapCopy) (k : RecordKind) (key : Nat) (committed : Bool) : List Field :=
  recordReply k key ((m.recordFields k key).getD [] ++ if committed then m.computedFields k key else [])

/-- MAP READ carried through (R12). -/
def Part.serveMapRead (p : Part) (f : Frame) : Part :=
  match boolOfCode (fieldAt f.body 0 1), kindAt f.body 1, boolOfCode (fieldAt f.body 4 1) with
  | some committed, some k, some next =>
    let m := if committed then p.lineMap.committed else p.lineMap.working
    match m.findRecord k (keyAt k f.body 2) next with
    | none => p.answer f .noSuch []
    | some key => p.answer f .ok (m.readFields k key committed)
  | _, _, _ => p.answer f .range []

/-- MAP_READ (R12). -/
def execMapRead (tag : Byte) (body : List Byte) (s : State) : Host.Outcome State Fault Refusal :=
  goOn s (s.part.request 0x14 tag body 5 everyMode Part.serveMapRead)

/-! ## MAP COMMIT, MAP IDENT (R13, R17, R23) -/

/-- MAP COMMIT carried through (R13, R17); INVALID MAP sends the record's identity in 2 bytes, as MAP WRITE carries it (log entry 16). -/
def Part.serveMapCommit (verified : Bool) (p : Part) (f : Frame) : Part :=
  if p.cmds.cmds.isEmpty then
    match p.lineMap.working.check with
    | some e => p.answer f .invalidMap [u8 e.kind.code, e.kind.identity e.key, u8 e.reason.code]
    | none =>
      (p.commit verified).answer f .ok
        [u32 (p.lineMap.commit verified).commitCount, u32 (p.lineMap.commit verified).checksum]
  else p.answer f .notEmpty []

/-- MAP_COMMIT (R17); `verified` says whether the bank reads back as written (R24). -/
def execMapCommit (tag : Byte) (body : List Byte) (verified : Bool) (s : State) : Host.Outcome State Fault Refusal :=
  goOn s (s.part.request 0x13 tag body 0 inSetup (Part.serveMapCommit verified))

/-- MAP IDENT carried through (R23). -/
def Part.serveMapIdent (p : Part) (f : Frame) : Part :=
  p.answer f .ok
    [u32 p.lineMap.commitCount, u32 p.lineMap.checksum, flag p.lineMap.differs, u32 p.lineMap.storedCount]

/-- MAP_IDENT (R23). -/
def execMapIdent (tag : Byte) (body : List Byte) (s : State) : Host.Outcome State Fault Refusal :=
  goOn s (s.part.request 0x15 tag body 0 everyMode Part.serveMapIdent)

/-! ## MAP LOCATE (R25) -/

/-- The fields common to both forms of MAP LOCATE's reply, after the place itself: segment (its index in 2 bytes, log entry 16), section,
leg-end receiver, the two neighbouring stations, the barrel-span flag (R25). -/
def MapCopy.locateFields (m : MapCopy) (segment P : Nat) : List Field :=
  [u16 segment, u8 (m.sectionOf P), .opt 1 ((m.legEnd P).map Prod.fst), .opt 1 (m.stationAtOrBefore P),
   .opt 1 (m.stationAfter P), flag (m.inBarrelSpan P)]

/-- The reply fields for a chainage; none above the line end (R25). -/
def MapCopy.locateChainage (m : MapCopy) (c : Nat) : Option (List Field) :=
  match m.segAtChainage c, m.coord c with
  | some s, some P => some (u32 P :: m.locateFields s.index P)
  | _, _ => none

/-- The reply fields for a coordinate; none above the line total (R25). -/
def MapCopy.locateCoord (m : MapCopy) (P : Nat) : Option (List Field) :=
  (m.segAtCoord P).map fun s => u32 (m.chainageOf P) :: m.locateFields s.index P

/-- MAP LOCATE carried through (R25). -/
def Part.serveMapLocate (p : Part) (f : Frame) : Part :=
  if p.lineMap.commitCount = 0 then p.answer f .uncommitted []
  else
    let found :=
      match boolOfCode (fieldAt f.body 0 1) with
      | none => none
      | some false => p.map.locateChainage (fieldAt f.body 1 4)
      | some true => p.map.locateCoord (fieldAt f.body 1 4)
    match found with
    | none => p.answer f .range []
    | some fs => p.answer f .ok fs

/-- MAP_LOCATE (R25). -/
def execMapLocate (tag : Byte) (body : List Byte) (s : State) : Host.Outcome State Fault Refusal :=
  goOn s (s.part.request 0x16 tag body 5 everyMode Part.serveMapLocate)

/-! ## ROSTER SET (R142) -/

/-- The stations a ROSTER SET lists. -/
def rosterList (body : List Byte) : List Nat := (body.drop 8).map (·.toNat)

/-- Whether a value is absent or in its range (R142). -/
def within (present : Bool) (v lo hi : Nat) : Bool := !present || (lo ≤ v && v ≤ hi)

/-- Whether a bit of ROSTER SET's mask is set. -/
def maskBit (body : List Byte) (i : Nat) : Bool := (body.getD 1 0).getLsbD i

/-- The checks of ROSTER SET on its body (R142, R182). -/
def rosterInRange (body : List Byte) : Bool :=
  decide (fieldAt body 0 1 ≤ 3) && decide (fieldAt body 1 1 ≤ 15)
    && (!maskBit body 3 || (decide ((rosterList body).length ≤ 16) && (rosterList body).all fun x => 1 ≤ x && x ≤ 64))
    && within (maskBit body 0) (fieldAt body 2 2) 100 2000
    && within (maskBit body 1) (fieldAt body 4 1) 0 7
    && within (maskBit body 2) (fieldAt body 5 2) 0 1000

/-- A roster record after a ROSTER SET (R142). -/
def Roster.write (r : Roster) (body : List Byte) : Roster :=
  { stations := if maskBit body 3 then rosterList body else r.stations
    replyTimeout := if maskBit body 0 then fieldAt body 2 2 else r.replyTimeout
    retryLimit := if maskBit body 1 then fieldAt body 4 1 else r.retryLimit
    pollGap := if maskBit body 2 then fieldAt body 5 2 else r.pollGap }

/-- ROSTER SET carried through (R142). -/
def Part.serveRosterSet (p : Part) (f : Frame) : Part :=
  match fourOf (fieldAt f.body 0 1) with
  | none => p.answer f .range []
  | some i =>
    if rosterInRange f.body then
      let r := (p.lineMap.working.rosters.get i).write f.body
      (p.edit { p.lineMap.working with rosters := p.lineMap.working.rosters.set i r }).answer f .ok
        (recordReply .roster i.val r.fields)
    else p.answer f .range []

/-- The length that ROSTER SET allows: 8 and its own station count (R182). -/
def rosterSetLength (body : List Byte) : Bool := 8 ≤ body.length && body.length == 8 + fieldAt body 7 1

/-- ROSTER_SET (R142). -/
def execRosterSet (tag : Byte) (body : List Byte) (s : State) : Host.Outcome State Fault Refusal :=
  goOn s (s.part.taking (requestFrame 0x17 tag body) fun q =>
    q.handle (requestFrame 0x17 tag body) (rosterSetLength body) inSetup Part.serveRosterSet)

end Sys2Proof.Machine
end

