-- ==== Sys2Proof/Machine/MeterCommands.lean ====
section
/-! DEFINITION. The meter unit's requests (R40 to R43). -/

namespace Sys2Proof.Machine

/-! ## QUERY METER and QUERY SECTION (R42, R43) -/

/-- The role in which a section names a meter: PRIMARY 0, ALTERNATE 1 (R42). -/
def roleCode (primary : Bool) : Nat := if primary then 0 else 1

/-- Whether a meter drives the section that names it (R42). -/
def Part.drives (p : Part) (n : Nat) : Bool :=
  match p.map.sectionNaming n with
  | none => false
  | some k => p.driver k.1 == some n

/-- The fields of QUERY METER's reply (R42); the plausible run takes 1 byte (log entry 16). -/
def Part.meterFields (p : Part) (n : Nat) (m : MeterRec) : List Field :=
  [u8 m.health.code, u8 m.plausible, .opt 4 m.lastCount, u32 m.residue, u64 m.totaliser, u64 m.counts,
   .pres 4 (m.stamp.map (·.toNat)), .opt 1 ((p.map.sectionNaming n).map Prod.fst),
   .opt 1 ((p.map.sectionNaming n).map fun k => roleCode k.2), flag (p.drives n)]

/-- QUERY METER carried through (R42). -/
def Part.serveQueryMeter (p : Part) (f : Frame) : Part :=
  let n := fieldAt f.body 0 1
  if RecordKind.meter.inRange n then
    match Table.get p.meters.meters n with
    | none => p.answer f .noSuch []
    | some m => p.answer f .ok (p.meterFields n m)
  else p.answer f .range []

/-- QUERY_METER (R42). -/
def execQueryMeter (tag : Byte) (body : List Byte) (s : State) : Host.Outcome State Fault Refusal :=
  goOn s (s.part.request 0x20 tag body 1 everyMode Part.serveQueryMeter)

/-- The fields of QUERY SECTION's reply (R43). -/
def Part.sectionFields (p : Part) (k : Nat) (c : Section) (r : SectionRec) : List Field :=
  [u8 c.primary, u8 (p.health c.primary).code, .opt 1 c.alternate, .opt 1 (c.alternate.map fun a => (p.health a).code),
   .opt 1 r.driver, flag r.meteredSince, u32 r.lastCredit, u32 r.lastInterval, u32 r.held,
   u32 (p.map.sectionLow k), u32 (p.map.sectionHigh k)]

/-- QUERY SECTION carried through (R43). -/
def Part.serveQuerySection (p : Part) (f : Frame) : Part :=
  let k := fieldAt f.body 0 1
  if RecordKind.lineSection.inRange k then
    match Table.get p.map.sections k, Table.get p.meters.sections k with
    | some c, some r => p.answer f .ok (p.sectionFields k c r)
    | _, _ => p.answer f .noSuch []
  else p.answer f .range []

/-- QUERY_SECTION (R43). -/
def execQuerySection (tag : Byte) (body : List Byte) (s : State) : Host.Outcome State Fault Refusal :=
  goOn s (s.part.request 0x21 tag body 1 everyMode Part.serveQuerySection)

/-! ## UNFREEZE (R40, R41) -/

/-- A section's held volume; 0 for a section that the map does not have. -/
def Part.heldOf (p : Part) (k : Nat) : Nat := ((Table.get p.meters.sections k).map (·.held)).getD 0

/-- The held volume of each section, section 0 first (R40). -/
def Part.heldFields (p : Part) : List Field := (List.range 16).map fun k => u32 (p.heldOf k)

/-- One section's held volume is handed to the run table as a delta and set to 0; a held volume of 0 is passed over (R40). -/
def Part.creditSection (p : Part) (k : Nat) : Part :=
  if p.heldOf k = 0 then p else ((p.advance k (p.heldOf k)).handOn).setSection k fun s => { s with held := 0 }

/-- The mode becomes TRACKING. -/
def Part.track (p : Part) : Part := { p with link := { p.link with mode := .tracking } }

/-- UNFREEZE CREDIT carried through: the sections from the highest-numbered to section 0 (R40). -/
def Part.serveUnfreezeCredit (p : Part) (f : Frame) : Part :=
  (((List.range 16).reverse.foldl Part.creditSection p).track).answer f .ok p.heldFields

/-- UNFREEZE_CREDIT (R40). -/
def execUnfreezeCredit (tag : Byte) (body : List Byte) (s : State) : Host.Outcome State Fault Refusal :=
  goOn s (s.part.request 0x22 tag body 0 inFrozen Part.serveUnfreezeCredit)

/-- Every held volume is set to 0 (R41). -/
def MeterUnit.dropHeld (m : MeterUnit) : MeterUnit :=
  { m with sections := Table.mapAll m.sections fun _ (s : SectionRec) => { s with held := 0 } }

/-- UNFREEZE DISCARD carried through (R41). -/
def Part.serveUnfreezeDiscard (p : Part) (f : Frame) : Part :=
  ({ p with meters := p.meters.dropHeld }.track).answer f .ok p.heldFields

/-- UNFREEZE_DISCARD (R41). -/
def execUnfreezeDiscard (tag : Byte) (body : List Byte) (s : State) : Host.Outcome State Fault Refusal :=
  goOn s (s.part.request 0x23 tag body 0 inFrozen Part.serveUnfreezeDiscard)

end Sys2Proof.Machine
end

