-- ==== Sys2Proof/Machine/PigCommands.lean ====
section
/-! DEFINITION. The run table's requests (R60 to R67). -/

namespace Sys2Proof.Machine

/-! ## DECLARE PIG (R61, R62) -/

/-- The pigs in the table plus the reservations (R48). -/
def RunTable.slotsTaken (r : RunTable) : Nat := r.pigs.length + r.reservations.length

/-- The number of slots of the run table (R48). -/
def runCapacity : Nat := 12

/-- Whether a pig slip given is in its range (R61, R102). -/
def slipOk (slip : Option Nat) : Bool := slip.all fun s => s ≤ 2500

/-- A pig's place in a leg, with its leg-end receiver; none in a barrel span, even where the leg of a launcher that stands inside the
span covers it (R21, R61, log entry 37). -/
def MapCopy.placeInLeg (m : MapCopy) (P : Nat) : Option Nat :=
  if m.inLeg P && !m.inBarrelSpan P then (m.legEnd P).map Prod.fst else none

/-- The reply fields of a pig's place (R62). -/
def Part.declaredFields (p : Part) (tag P legEnd : Nat) : List Field :=
  [u32 P, u32 (p.map.chainageOf P), u8 (p.map.sectionOf P), u8 legEnd] ++ listPoints (p.fixPointsAhead tag P legEnd)

/-- A declared pig enters: entry, lists, record, checks, hand-on (R62, R90; the order is log entry 24). -/
def Part.declare (p : Part) (id tag : Nat) (kind : PigKind) (slip P legEnd : Nat) : Part :=
  ((((p.enterPig id tag kind slip P legEnd .none).openRecord id tag kind .inLine).entry id .declared .none (some P) (some 0)
    slip).checkPig id).handOn

/-- DECLARE PIG carried through (R61, R62). -/
def Part.serveDeclarePig (p : Part) (f : Frame) : Part :=
  let id := fieldAt f.body 0 2
  let tag := fieldAt f.body 2 2
  let slip := optAt f.body 5 2
  match PigKind.ofCode (fieldAt f.body 4 1), p.map.coord (fieldAt f.body 7 4) with
  | some kind, some P =>
    if id = 0 || !slipOk slip then p.answer f .range []
    else if p.present id then p.answer f .duplicate []
    else if runCapacity ≤ p.run.slotsTaken then p.answer f .full []
    else
      match p.map.placeInLeg P with
      | none => p.answer f .order []
      | some r => (p.declare id tag kind (slip.getD (p.tuning.slipOf kind)) P r).answer f .ok (p.declaredFields tag P r)
  | _, _ => p.answer f .range []

/-- DECLARE_PIG (R62). -/
def execDeclarePig (tag : Byte) (body : List Byte) (s : State) : Host.Outcome State Fault Refusal :=
  goOn s (s.part.request 0x30 tag body 11 inTracking Part.serveDeclarePig)

/-! ## FIX PIG (R63, R64) -/

/-- The entry immediately behind a pig (R47). -/
def pigBehind (pigs : List Pig) (id : Nat) : Option Pig := ((pigs.dropWhile fun g => g.id != id).drop 1).head?

/-- Whether a new P keeps the pig's place in the order (R63). -/
def Part.keepsOrder (p : Part) (id P : Nat) : Bool :=
  (pigAhead p.run.pigs id).all (fun a => P ≤ a.P) && (pigBehind p.run.pigs id).all (fun b => b.P ≤ P)

/-- A pig after a fix at P (R64). -/
def Part.fixedPig (p : Part) (g : Pig) (P legEnd : Nat) : Pig :=
  { p.movedTo g P with
    M := 0, O := 0, fixAt := P, fixPoint := .none, fixTime := p.stamp, legEnd
    overdue := false, stuck := false, stale := false }

/-- The points on whose lists a pig stands, the stations in order of coordinate and then the receiver. That FIX PIG makes its PASSED BY FIX
entries, and its reply lists the points left and joined, in this order is the model's choice: R64 gives none (log entry 57). -/
def Part.pointsOf (p : Part) (id : Nat) : List Point := (p.stationsOf id).map Point.station ++ p.receiversOf id

/-- The lists a fixed pig leaves: those of fix points at or below the new P, and those outside its new leg (R64). -/
def Part.fixLeaves (p : Part) (id P legEnd : Nat) : List Point :=
  (p.pointsOf id).filter fun x => x != .trap legEnd && (p.pointCoord x ≤ P || p.map.trapCoord legEnd ≤ p.pointCoord x)

/-- Whether a list is left with entry PASSED BY FIX: the fix point lies at or below the new P (R64). -/
def Part.passedByFix (p : Part) (P : Nat) (x : Point) : Bool := p.pointCoord x ≤ P

/-- The lists a fixed pig joins (R64). -/
def Part.fixJoins (p : Part) (id tag P legEnd : Nat) : List Point :=
  (p.fixPointsAhead tag P legEnd).filter fun x => !(p.pointsOf id).contains x

/-- A pig leaves the list of a fix point. -/
def Part.leavePoint (p : Part) (id : Nat) : Point → Part
  | .none => p
  | .station n => p.leaveStation n id
  | .trap t => p.leaveReceiver id t

/-- A fixed pig leaves one list, with its entry where R64 gives one. `M` is the M that the fix discarded (log entry 26). -/
def Part.fixLeave (p : Part) (g : Pig) (M : Nat) (x : Point) : Part :=
  if p.passedByFix g.P x then (p.leavePoint g.id x).entry g.id .passedByFix x (some g.P) (some M) g.slip
  else p.leavePoint g.id x

/-- A pig leaves every unobserved list (R64). -/
def Part.leaveUnobserved (p : Part) (id : Nat) : Part :=
  { p with attr :=
    { p.attr with stations := Table.mapAll p.attr.stations fun _ (a : StationAttr) =>
        { a with unobserved := a.unobserved.filter (· != id) } } }

/-- The fix carried through: the record, the lists, the entries, the checks, the release behind, the hand-on (R64). That the check of the
fixed pig comes after the lists it leaves and joins and after its entry FIXED, so that a receiver that auto-arms on joining is no longer
EMPTY at the check, is the model's choice (log entry 41): R64 names the checks before attribution's lists. -/
def Part.fix (p : Part) (g : Pig) (P legEnd : Nat) : Part :=
  let h := p.fixedPig g P legEnd
  let left := (p.fixLeaves g.id P legEnd).foldl (fun q x => q.fixLeave h g.M x) (p.setPig h)
  let joined := ((p.fixJoins g.id g.tag P legEnd).foldl (fun q x => q.joinPoint g.id x) left).leaveUnobserved g.id
  let checked := (joined.entry g.id .fixed .none (some P) (some g.M) g.slip).checkPig g.id
  (if g.P < P then checked.releaseBehind g.id else checked).handOn

/-- FIX PIG carried through (R63, R64). -/
def Part.serveFixPig (p : Part) (f : Frame) : Part :=
  let id := fieldAt f.body 0 2
  match p.map.coord (fieldAt f.body 2 4) with
  | none => p.answer f .range []
  | some P =>
    if id = 0 then p.answer f .range []
    else
      match p.pig id, p.map.placeInLeg P with
      | none, _ => p.answer f .noSuch []
      | some _, none => p.answer f .order []
      | some g, some r =>
        if p.keepsOrder id P then
          (p.fix g P r).answer f .ok
            ([u32 P, u32 (p.map.chainageOf P), u8 r] ++ listPoints (p.fixLeaves id P r) ++ listPoints (p.fixJoins id g.tag P r))
        else p.answer f .order []

/-- FIX_PIG (R64). -/
def execFixPig (tag : Byte) (body : List Byte) (s : State) : Host.Outcome State Fault Refusal :=
  goOn s (s.part.request 0x31 tag body 6 running Part.serveFixPig)

/-! ## WRITE OFF PIG (R65) -/

/-- The write-off carried through: entry, lists, record, release, hand-on (R65). -/
def Part.writeOff (p : Part) (id : Nat) : Part :=
  ((p.removeEntry id).complete id .writtenOff).closeGap (idsBehind p.run.pigs id)

/-- WRITE OFF PIG carried through (R65). -/
def Part.serveWriteOffPig (p : Part) (f : Frame) : Part :=
  let id := fieldAt f.body 0 2
  if id = 0 then p.answer f .range []
  else
    match p.pig id with
    | none => p.answer f .noSuch []
    | some g => (p.writeOff id).answer f .ok [u32 g.P, u32 (p.map.chainageOf g.P)]

/-- WRITE_OFF_PIG (R65). -/
def execWriteOffPig (tag : Byte) (body : List Byte) (s : State) : Host.Outcome State Fault Refusal :=
  goOn s (s.part.request 0x32 tag body 2 running Part.serveWriteOffPig)

/-! ## QUERY PIG and QUERY RUN TABLE (R66, R67) -/

/-- The station of a point: a station's own, or its trap's. -/
def Part.pointStation (p : Part) : Point → Option Nat
  | .none => none
  | .station n => some n
  | .trap t => p.trapStation t

/-- A pig's next fix point and its coordinate (R66). -/
def Part.nextPoint (p : Part) (id : Nat) : Point × Nat := (p.nextFix id).getD (.none, 0)

/-- The fields of QUERY PIG's reply for a pig in the table (R66). That M and O, which are absent for a held pig and can reach all ones,
have a presence byte is the model's choice, R182's criterion and its list being at odds there (log entry 38). The slip residue takes 2 bytes and the position 1, widths the appendix
does not give, and the location is followed by the byte of the trap index here too, absent for a pig in the line (FFh), though R66 lists
none for it (log entry 16). -/
def Part.linePigFields (p : Part) (g : Pig) : List Field :=
  let next := p.nextPoint g.id
  Location.inLine.fields ++
  [.opt 1 (some (((p.run.pigs.map (·.id)).takeWhile (· != g.id)).length + 1)), u16 g.id, u16 g.tag, u8 g.kind.code, u16 g.slip,
   .opt 2 (some g.rp), .opt 4 (some g.P), .opt 4 (some (p.map.chainageOf g.P)), .opt 1 (some (p.map.sectionOf g.P)),
   .pres 4 (some g.M), .pres 4 (some g.O), .opt 4 (some (p.spread g)), .opt 4 (some g.fixAt)] ++ g.fixPoint.fields ++
  [timeOpt (some g.fixTime), .opt 1 (some g.legEnd), .opt 1 (some g.flagByte)] ++ next.1.fields ++
  [.opt 1 ((p.pointStation next.1).map fun x => (p.live x).code), .opt 4 (some (next.2 - g.P)),
   .opt 4 (some (p.limit g).value), .opt 1 (some (p.limit g).term)]

/-- The two bytes of a point that a reply does not have: all ones (R182). -/
def absentPoint : List Field := [.opt 1 none, .opt 1 none]

/-- The fields of QUERY PIG's reply for a pig in a holding: the fields that belong to the line absent (R66). -/
def heldPigFields (t : Nat) (h : HeldPig) : List Field :=
  (Location.inTrap t).fields ++
  [.opt 1 none, u16 h.id, u16 h.tag, u8 h.kind.code, u16 h.slip, .opt 2 none, .opt 4 none, .opt 4 none, .opt 1 none,
   .pres 4 none, .pres 4 none, .opt 4 none, .opt 4 none] ++ absentPoint ++
  [timeOpt none, .opt 1 none, .opt 1 none] ++ absentPoint ++ [.opt 1 none, .opt 4 none, .opt 4 none, .opt 1 none]

/-- QUERY PIG carried through (R66). -/
def Part.serveQueryPig (p : Part) (f : Frame) : Part :=
  let id := fieldAt f.body 0 2
  if id = 0 then p.answer f .range []
  else
    match p.pig id, p.holder id with
    | some g, _ => p.answer f .ok (p.linePigFields g)
    | none, some h => p.answer f .ok (heldPigFields h.1 h.2)
    | none, none => p.answer f .noSuch []

/-- QUERY_PIG (R66). -/
def execQueryPig (tag : Byte) (body : List Byte) (s : State) : Host.Outcome State Fault Refusal :=
  goOn s (s.part.request 0x33 tag body 2 everyMode Part.serveQueryPig)

/-- One pig in QUERY RUN TABLE's reply (R67). -/
def Part.rowFields (p : Part) (g : Pig) : List Field :=
  let next := p.nextPoint g.id
  [u16 g.id, u16 g.tag, u32 g.P, u32 (p.map.chainageOf g.P), u8 (p.map.sectionOf g.P), u32 g.O, u32 (p.spread g),
   u8 g.flagByte] ++ next.1.fields ++ [u32 (next.2 - g.P)]

/-- QUERY RUN TABLE carried through (R67): the number of pigs is a count of 4 bytes (R181), the launchers that hold reservations a list
after its number in 1 byte (log entry 16). -/
def Part.serveQueryRunTable (p : Part) (f : Frame) : Part :=
  p.answer f .ok (u32 p.run.pigs.length :: listU8 p.run.reservations ++ p.run.pigs.flatMap p.rowFields)

/-- QUERY_RUN_TABLE (R67). -/
def execQueryRunTable (tag : Byte) (body : List Byte) (s : State) : Host.Outcome State Fault Refusal :=
  goOn s (s.part.request 0x34 tag body 0 everyMode Part.serveQueryRunTable)

end Sys2Proof.Machine
end

