-- ==== Sys2Proof/Machine/TrapCommands.lean ====
section
/-! DEFINITION. The trap sequencer's requests and the expiries of its step deadlines (R100 to R125). -/

namespace Sys2Proof.Machine

/-! ## Naming a trap (R100) -/

/-- A trap request after its mode: RANGE for an index outside 1..16, NO SUCH for a trap that is absent or does not fit (R100). -/
def Part.onTrap (p : Part) (f : Frame) (fits : Trap → Bool) (act : Nat → Trap → TrapRec → Part) : Part :=
  let t := fieldAt f.body 0 1
  if RecordKind.trap.inRange t then
    match Table.get p.map.traps t, Table.get p.traps t with
    | some m, some r => if fits m then act t m r else p.answer f .noSuch []
    | _, _ => p.answer f .noSuch []
  else p.answer f .range []

/-- The trap is a launcher. -/
def Trap.isLauncher (m : Trap) : Bool := m.role == .launcher

/-- The trap is a receiver. -/
def Trap.isReceiver (m : Trap) : Bool := m.role == .receiver

/-- Either role suits. -/
def Trap.isEither (_ : Trap) : Bool := true

/-! ## LOAD PIG and LAUNCH (R102, R103) -/

/-- A pig is loaded: the holding, the state, the record (R102, R160). -/
def Part.load (p : Part) (t : Nat) (h : HeldPig) : Part :=
  ((p.setTrap t fun r => { r with state := .loaded, holding := some h }).openRecord h.id h.tag h.kind (.inTrap t)).entry
    h.id .loaded (.trap t) none none h.slip

/-- LOAD PIG carried through (R102). -/
def Part.serveLoadPig (p : Part) (f : Frame) : Part :=
  p.onTrap f Trap.isLauncher fun t _ r =>
    let id := fieldAt f.body 1 2
    let slip := optAt f.body 6 2
    match PigKind.ofCode (fieldAt f.body 5 1) with
    | none => p.answer f .range []
    | some kind =>
      if id = 0 || !slipOk slip then p.answer f .range []
      else if p.present id then p.answer f .duplicate []
      else if r.state != .empty then p.answer f .trapBusy []
      else
        let given := slip.getD (p.tuning.slipOf kind)
        (p.load t { id, tag := fieldAt f.body 3 2, kind, slip := given }).answer f .ok [u16 given]

/-- LOAD_PIG (R102). -/
def execLoadPig (tag : Byte) (body : List Byte) (s : State) : Host.Outcome State Fault Refusal :=
  goOn s (s.part.request 0x40 tag body 8 inTracking Part.serveLoadPig)

/-- A launcher's index joins the set of reservations (R49). That the set stands, and is sent by QUERY RUN TABLE, in rising trap index is the
model's choice: R67 gives no order (log entry 16). -/
def addReservation : List Nat → Nat → List Nat
  | [], t => [t]
  | x :: rest, t => if t < x then t :: x :: rest else if t = x then x :: rest else x :: addReservation rest t

/-- A launch starts: the reservation and the sequence (R49, R103). -/
def Part.startLaunch (p : Part) (t : Nat) (m : Trap) : Part :=
  { p with run := { p.run with reservations := addReservation p.run.reservations t } }.startSequence t m none

/-- LAUNCH carried through (R103). -/
def Part.serveLaunch (p : Part) (f : Frame) : Part :=
  p.onTrap f Trap.isLauncher fun t m r =>
    if r.state != .loaded || !p.freeToStart t m then p.answer f .trapBusy []
    else if runCapacity ≤ p.run.slotsTaken then p.answer f .full []
    else if p.tooClose t then p.answer f .tooClose []
    else (p.startLaunch t m).answer f .ok []

/-- LAUNCH (R103). -/
def execLaunch (tag : Byte) (body : List Byte) (s : State) : Host.Outcome State Fault Refusal :=
  goOn s (s.part.request 0x41 tag body 1 inTracking Part.serveLaunch)

/-! ## RECEIVE ARM, TRANSFER, REMOVE PIG (R111, R116, R117) -/

/-- RECEIVE ARM carried through (R111). -/
def Part.serveReceiveArm (p : Part) (f : Frame) : Part :=
  p.onTrap f Trap.isReceiver fun t m r =>
    if r.state != .empty || !p.freeToStart t m then p.answer f .trapBusy []
    else (p.startReceive t m).answer f .ok [pigOpt (p.awaited t).head?]

/-- RECEIVE_ARM (R111). -/
def execReceiveArm (tag : Byte) (body : List Byte) (s : State) : Host.Outcome State Fault Refusal :=
  goOn s (s.part.request 0x42 tag body 1 running Part.serveReceiveArm)

/-- A held pig moves from a relay receiver to its launcher, and the receiver makes its auto-arm test (R116). -/
def Part.moveHeld (p : Part) (t l : Nat) (h : HeldPig) : Part :=
  let q := (p.setTrap t fun r => { r with state := .empty, holding := none }).setTrap l fun r =>
    { r with state := .loaded, holding := some h }
  ((q.locate h.id (.inTrap l)).entry h.id .transferred (.trap l) none none h.slip).autoArm t

/-- TRANSFER carried through (R116). -/
def Part.serveTransfer (p : Part) (f : Frame) : Part :=
  p.onTrap f (fun m => m.isReceiver && m.pair.isSome) fun t m r =>
    match m.pair, r.holding with
    | some l, some h =>
      if r.state == .holding && p.trapState l == .empty then (p.moveHeld t l h).answer f .ok [u8 l]
      else p.answer f .trapBusy []
    | _, _ => p.answer f .trapBusy []

/-- TRANSFER (R116). -/
def execTransfer (tag : Byte) (body : List Byte) (s : State) : Host.Outcome State Fault Refusal :=
  goOn s (s.part.request 0x43 tag body 1 running Part.serveTransfer)

/-- A held pig is removed: the trap becomes EMPTY, the record is completed, a receiver makes its auto-arm test (R117, R163). -/
def Part.removeHeld (p : Part) (t : Nat) (h : HeldPig) (outcome : Result) : Part :=
  ((p.setTrap t fun r => { r with state := .empty, holding := none }).complete h.id outcome).autoArm t

/-- REMOVE PIG carried through (R117). -/
def Part.serveRemovePig (p : Part) (f : Frame) : Part :=
  p.onTrap f Trap.isEither fun t _ r =>
    match r.state, r.holding with
    | .holding, some h => (p.removeHeld t h .received).answer f .ok [u16 h.id]
    | .loaded, some h => (p.removeHeld t h .unloaded).answer f .ok [u16 h.id]
    | _, _ => p.answer f .trapBusy []

/-- REMOVE_PIG (R117). -/
def execRemovePig (tag : Byte) (body : List Byte) (s : State) : Host.Outcome State Fault Refusal :=
  goOn s (s.part.request 0x44 tag body 1 running Part.serveRemovePig)

/-! ## ABORT and RESUME (R120, R122) -/

/-- An abort: the HELD and QUEUED commands withdrawn, abort yes, the target absent, and RESTORING (R120). -/
def Part.abortSequence (p : Part) (t : Nat) : Part :=
  ((p.withdraw t).setTrap t fun r => { r with abort := true, target := none }).toRestoring t

/-- ABORT carried through (R120). -/
def Part.serveAbort (p : Part) (f : Frame) : Part :=
  p.onTrap f Trap.isEither fun t _ r =>
    if !r.state.inProgress then p.answer f .noSuch []
    else if r.state == .restoring then p.answer f .ok []
    else (p.abortSequence t).answer f .ok []

/-- ABORT (R120). -/
def execAbort (tag : Byte) (body : List Byte) (s : State) : Host.Outcome State Fault Refusal :=
  goOn s (s.part.request 0x45 tag body 1 running Part.serveAbort)

/-- Whether a step command stands in the way of a RESUME: not COMPLETE, and its valve under a command of another origin (R122). -/
def Part.resumeBlocked (p : Part) (t : Nat) (m : Trap) (c : StepCmd) : Bool :=
  c.cond != .complete && (p.cmds.find m.station (m.slotOf c.role)).any fun x => x.origin != .sequence t

/-- The deadline that a step takes afresh at a RESUME (R105, R106, R112, R122). -/
def Part.resumeDeadline (p : Part) (m : Trap) (r : TrapRec) : Option Tick :=
  match r.step with
  | some .equalising | some .diverting => some (p.after (m.equaliseTimeout * 1000))
  | some .driving => if r.holding.isSome then some (p.after (m.driveTimeout * 1000)) else none
  | _ => none

/-- What a resumed DRIVING step does: a throttle never issued waits for separation again, one that FAILED is issued again, and a
launcher whose pig has left issues none (R106, R122). -/
def Part.resumeDriving (p : Part) (t : Nat) (r : TrapRec) : Part :=
  if r.holding.isNone then p.judge t
  else if r.cmds.any fun c => c.cond == .notIssued then p.trySeparation t
  else p.issueDue t true

/-- The step of a resumed sequence is taken up again and judged (R122). -/
def Part.takeUp (p : Part) (t : Nat) (r : TrapRec) : Part :=
  match r.step with
  | some .driving => p.resumeDriving t r
  | some .waiting => p.toWaiting t
  | _ => (p.issueDue t true).judge t

/-- RESUME of a sequence in FAULT or SUSPENDED (R122). -/
def Part.resumeSequence (p : Part) (t : Nat) (m : Trap) (r : TrapRec) : Part :=
  (p.setTrap t fun x =>
    { x with state := x.step.getD .empty, hold := .none, deadline := p.resumeDeadline m r
             eqSeen := x.eqSeen && x.step != some .equalising }).takeUp t r

/-- RESUME carried through (R122). -/
def Part.serveResume (p : Part) (f : Frame) : Part :=
  p.onTrap f Trap.isEither fun t m r =>
    if !r.state.inProgress then p.answer f .noSuch []
    else if r.state.active then p.answer f .trapBusy []
    else if r.cmds.any (p.resumeBlocked t m) then p.answer f .valveBusy []
    else (p.resumeSequence t m r).answer f .ok []

/-- RESUME (R122). -/
def execResume (tag : Byte) (body : List Byte) (s : State) : Host.Outcome State Fault Refusal :=
  goOn s (s.part.request 0x46 tag body 1 running Part.serveResume)

/-! ## QUERY TRAP (R125) -/

/-- The last fault's fields; the valve is sent as its slot at the trap's station, in one byte (log entry 16). -/
def faultFields (e : Option SeqFault) : List Field :=
  [.opt 1 (e.map fun x => x.reason.code), stepField (e.bind (·.step)), .opt 1 (e.bind (·.slot)), timeOpt (e.map (·.time))]

/-- The step commands' fields: valve, action and condition of each, after their number (R125); the valve as station and slot, 1 byte each
(log entry 16). -/
def stepCmdFields (m : Trap) (cs : List StepCmd) : List Field :=
  u8 cs.length :: cs.flatMap fun c => [u8 m.station, u8 (m.slotOf c.role), u8 c.action.code, u8 c.cond.code]

/-- A receiver's lead and distance, as they would be formed now, each in 4 bytes (R125). That the lead has no presence byte, though it can
reach FFFFFFFFh, and that its low 4 bytes are sent when it exceeds them, are the model's choices (log entry 38): R182 names a volume among
the fields that take one only at 64 bits, and says that every other field stays below all ones. -/
def Part.armFields (p : Part) (t : Nat) (m : Trap) : List Field :=
  let head := if m.isReceiver then p.headPig t else none
  [.opt 4 (head.map (p.lead m)), .opt 4 (head.map fun g => p.map.trapCoord t - g.P)]

/-- The fields of QUERY TRAP's reply (R125). That the held pig's tag and the barrel baseline, which may be absent and reach all ones, have a
presence byte is the model's choice, R182's criterion and its list being at odds there (log entry 38). -/
def Part.trapFields (p : Part) (t : Nat) (m : Trap) (r : TrapRec) : List Field :=
  [u8 m.role.code, u8 m.station, u32 (p.map.trapCoord t), u8 r.state.code, stepField r.step, flag r.abort,
   pigOpt (r.holding.map (·.id)), .pres 2 (r.holding.map (·.tag)), .opt 1 (r.holding.map fun h => h.kind.code),
   .opt 2 (r.holding.map (·.slip)), pigOpt r.target, u8 r.hold.code] ++ stepCmdFields m r.cmds ++
  [flag r.eqSeen, .opt 4 (r.deadline.map p.msTo),
   .opt 1 (if m.isLauncher then some (p.run.reservations.contains t).toNat else none)] ++ faultFields r.lastFault ++
  [.opt 1 (r.result.map Result.code), .pres 1 (r.barrel.map (·.toNat)), flag m.autoArm, pigOpt r.suppressed] ++
  p.armFields t m

/-- QUERY TRAP carried through (R125). -/
def Part.serveQueryTrap (p : Part) (f : Frame) : Part :=
  p.onTrap f Trap.isEither fun t m r => p.answer f .ok (p.trapFields t m r)

/-- QUERY_TRAP (R125). -/
def execQueryTrap (tag : Byte) (body : List Byte) (s : State) : Host.Outcome State Fault Refusal :=
  goOn s (s.part.request 0x47 tag body 1 everyMode Part.serveQueryTrap)

/-! ## Step deadlines (R105, R106, R112) -/

/-- A trap's step deadline expires in a state: time runs on to it and the sequence faults (log entry 2). -/
def Part.stepExpires (p : Part) (t : Nat) (state : TrapState) (reason : TrapRec → Reason) (slot : TrapRec → Option Nat) : Part :=
  match Table.get p.traps t with
  | none => p
  | some r =>
    match r.deadline with
    | none => p
    | some d => if p.running && r.state == state then (p.elapseTo d).faultSeq t (reason r) (slot r) else p

/-- A trap's mainline slot. -/
def Part.mainlineSlot (p : Part) (t : Nat) : Option Nat := (Table.get p.map.traps t).map (·.mainline)

/-- The reason DRIVING times out with (R106). -/
def driveReason (r : TrapRec) : Reason :=
  match r.hold with
  | .separation => .separationTimeout
  | .interlock => .interlockTimeout
  | .none | .portSpace => .noLaunch

/-- The reason DIVERTING times out with (R112). -/
def divertReason (r : TrapRec) : Reason := if r.hold == .interlock then .interlockTimeout else .valveTimeout

/-- EQUALISE_TIMEOUT (R105). -/
def execEqualiseTimeout (trap : Nat) (s : State) : Host.Outcome State Fault Refusal :=
  goOn s (s.part.stepExpires trap .equalising (fun _ => .equaliseTimeout) fun _ => none)

/-- DRIVE_TIMEOUT (R106); the fault names the mainline valve for an INTERLOCK TIMEOUT alone (R118). -/
def execDriveTimeout (trap : Nat) (s : State) : Host.Outcome State Fault Refusal :=
  goOn s (s.part.stepExpires trap .driving driveReason fun r =>
    if driveReason r = .interlockTimeout then s.part.mainlineSlot trap else none)

/-- DIVERTING_TIMEOUT (R112). -/
def execDivertingTimeout (trap : Nat) (s : State) : Host.Outcome State Fault Refusal :=
  goOn s (s.part.stepExpires trap .diverting divertReason fun _ => s.part.mainlineSlot trap)

end Sys2Proof.Machine
end

