-- ==== Sys2Proof/Machine/ValveCommands.lean ====
section
/-! DEFINITION. VALVE, QUERY VALVE and the expiry of a command's deadline (R127 to R133, R137, R140). -/

namespace Sys2Proof.Machine

/-! ## VALVE: its operands (R127) -/

/-- A valve command as the host asks for it. -/
structure ValveAsk where
  station : Nat
  slot : Nat
  action : Action
  target : Option Nat
  cls : CmdClass
  deriving DecidableEq, Repr

/-- A THROTTLE's target is present and at most 100 (R127). -/
def targetOk (action : Action) (target : Option Nat) : Bool :=
  match action, target with
  | .throttle, some v => v ≤ 100
  | .throttle, none => false
  | .opening, _ | .closing, _ => true

/-- The body of a VALVE request; none when it is refused RANGE (R127). -/
def readValveAsk (body : List Byte) : Option ValveAsk :=
  let station := fieldAt body 0 1
  let slot := fieldAt body 1 1
  match Action.ofCode (fieldAt body 2 1), CmdClass.ofCode (fieldAt body 4 1) with
  | some action, some cls =>
    let target := optAt body 3 1
    if RecordKind.valve.inRange (valveKey station slot) && targetOk action target then
      some { station, slot, action, cls
             target := if action = .throttle then target.map clampTarget else none }
    else none
  | _, _ => none

/-! ## VALVE: the tests (R128 to R133) -/

/-- A trap with a sequence in progress names the valve (R130). -/
def Part.trapHolds (p : Part) (station slot : Nat) : Bool :=
  p.map.traps.any fun e => e.2.station == station && e.2.slots.contains slot && (p.trapState e.1).inProgress

/-- The claiming port's queue as the new command finds it: a superseded command that stands in it has left (R129). -/
def Part.queueFor (p : Part) (i : Fin 4) (v : Nat × Nat) : List (Nat × Nat) := (p.port i).queue.filter (· != v)

/-- The NORMAL command that stands last in a queue (R133). -/
def Part.lastNormal (p : Part) (q : List (Nat × Nat)) : Option Cmd :=
  ((q.filterMap fun v => p.cmds.find v.1 v.2).filter fun c => c.cls == .normal).getLast?

/-- What the tests of a host command find: a refusal, or a place, with the NORMAL command it displaces. -/
inductive ValveTest
  | refuse (code : ReplyCode) (fields : List Field)
  | taken (port : Fin 4) (displaced : Option Cmd)
  deriving DecidableEq, Repr

/-- The test for port space (R133). -/
def Part.testSpace (p : Part) (a : ValveAsk) (i : Fin 4) : ValveTest :=
  if (p.queueFor i (a.station, a.slot)).length < queueCapacity then .taken i none
  else
    match a.cls, p.lastNormal (p.queueFor i (a.station, a.slot)) with
    | .esd, some c => .taken i (some c)
    | .esd, none => .refuse .portBusy []
    | .normal, _ => .refuse .portBusy []

/-- The tests of a host command in their order: claim, valve in motion, trap in sequence, interlock, table space, port space
(R128 to R133). -/
def Part.testValve (p : Part) (a : ValveAsk) : ValveTest :=
  match p.map.claim a.station with
  | none => .refuse .noSuch []
  | some i =>
    let outstanding := (p.cmds.find a.station a.slot).isSome
    let near := (p.interlockPigs a.station a.slot a.action none).head?
    if a.cls = .normal ∧ outstanding = true then .refuse .valveBusy []
    else if a.cls = .normal ∧ p.trapHolds a.station a.slot = true then .refuse .trapBusy []
    else
      match a.cls, near with
      | .normal, some g => .refuse .pigNear [u16 g.id, u8 a.station]
      | _, _ =>
        if commandCapacity ≤ p.cmds.cmds.length ∧ outstanding = false then .refuse .full []
        else p.testSpace a i

/-! ## VALVE: what a taken command does (R119, R129, R132, R133) -/

/-- A superseded command's outcome (R129). No auto-arm test follows here: the command that took its place is outstanding on the valve, so
no trap that names it is free to start (R101, R110). -/
def Part.tellSuperseded (p : Part) (old : Option Cmd) : Part :=
  match old with
  | none => p
  | some c => p.tellOrigin c (.failed .superseded)

/-- A displaced command's outcome: a host command ends PORT BUSY, after which the receivers that name its valve make their auto-arm tests
(R110); a sequence command becomes a held entry (R133). -/
def Part.tellDisplaced (p : Part) (gone : Option Cmd) : Part :=
  match gone with
  | none => p
  | some c =>
    match c.origin with
    | .host => (p.valveFailed c .portBusy none).autoArmNaming c.station c.slot
    | .sequence t =>
      p.hold { trap := t, station := c.station, slot := c.slot, action := c.action, target := c.target, cause := .portSpace }

/-- The traps whose sequence in progress an ESD command overrides (R119). -/
def Part.overridden (p : Part) (station slot : Nat) : List Nat :=
  (p.map.traps.filter fun e =>
    e.2.station == station && e.2.slots.contains slot && (p.trapState e.1).inProgress).map Prod.fst

/-- An ESD command placed on a valve faults the sequences that hold it (R119). -/
def Part.override (p : Part) (a : ValveAsk) : Part :=
  match a.cls with
  | .normal => p
  | .esd => (p.overridden a.station a.slot).foldl (fun q t => q.faultSeq t .valveOverridden (some a.slot)) p

/-- Notice FORCED CLOSE NEAR PIG, for an ESD command that the interlock would have refused (R132). -/
def Part.reportForced (p : Part) (a : ValveAsk) (near : List Pig) : Part :=
  match a.cls, near with
  | .esd, g :: _ => p.notify .forcedCloseNearPig (some g.id) (some a.station) none [u8 a.slot, u32 near.length]
  | _, _ => p

/-- A command that may be there leaves the table and the queue. -/
def Part.dropIf (p : Part) (c : Option Cmd) : Part :=
  match c with
  | none => p
  | some x => p.dropCmd x

/-- A taken host command: supersession and displacement, the record, the outcomes, the override, the forced-close notice (R119,
R129, R132, R133; the order is log entry 20). The displaced command is told first: held by then, it is withdrawn with the rest when the
superseded one faults the sequence that both belong to (R118). -/
def Part.placeHost (p : Part) (a : ValveAsk) (i : Fin 4) (displaced : Option Cmd) : Part :=
  let old := p.cmds.find a.station a.slot
  let placed := ((p.dropIf old).dropIf displaced).place i a.station a.slot a.action a.target a.cls .host
  let offered := if old.isSome || displaced.isSome then (placed.offerPort i).offerTable else placed
  (((offered.tellDisplaced displaced).tellSuperseded old).override a).reportForced a
    (p.interlockPigs a.station a.slot a.action none)

/-- The flags of a taken VALVE: SUPERSEDED and FORCED (R127). -/
def Part.valveFlags (p : Part) (a : ValveAsk) : Nat :=
  flagSet [(p.cmds.find a.station a.slot).isSome,
    a.cls == .esd && !(p.interlockPigs a.station a.slot a.action none).isEmpty]

/-- VALVE once its operands have been read (R127 to R133). -/
def Part.askValve (p : Part) (f : Frame) (a : ValveAsk) : Part :=
  match p.map.valve a.station a.slot with
  | none => p.answer f .noSuch []
  | some _ =>
    match p.testValve a with
    | .refuse code fields => p.answer f code fields
    | .taken i displaced => (p.placeHost a i displaced).answer f .ok [.opt 1 a.target, u8 i.val, u8 (p.valveFlags a)]

/-- VALVE carried through (R127): refused MODE in SETUP when its class is NORMAL. -/
def Part.serveValve (p : Part) (f : Frame) : Part :=
  if p.link.mode = .setup ∧ CmdClass.ofCode (fieldAt f.body 4 1) = some .normal then p.answer f .mode []
  else
    match readValveAsk f.body with
    | none => p.answer f .range []
    | some a => p.askValve f a

/-- VALVE (R127). -/
def execValve (tag : Byte) (body : List Byte) (s : State) : Host.Outcome State Fault Refusal :=
  goOn s (s.part.request 0x50 tag body 5 everyMode Part.serveValve)

/-! ## QUERY VALVE (R140) -/

/-- The traps that name a valve, each with its state, after their number (R140); that they come in rising index is the model's choice (log
entry 16). -/
def Part.namingFields (p : Part) (station slot : Nat) : List Field :=
  let ts := (p.map.traps.filter fun e => e.2.station == station && e.2.slots.contains slot).map Prod.fst
  u8 ts.length :: ts.flatMap fun t => [u8 t, u8 (p.trapState t).code]

/-- An origin's code and its trap (R126). -/
def originFields (o : Option Origin) : List Field :=
  match o with
  | none => [.opt 1 none, .opt 1 none]
  | some .host => [.opt 1 (some 0), .opt 1 none]
  | some (.sequence t) => [.opt 1 (some 1), .opt 1 (some t)]

/-- A command's place in its port's queue (R140). The front counts as 1, the place takes 1 byte, and it is absent once the command is SENT:
the model's choices, neither R140 nor R181 giving the base or the width (log entry 16). -/
def Part.queuePlace (p : Part) (c : Cmd) : Option Nat :=
  if c.sent then none else some (((p.port c.port).queue.takeWhile (· != (c.station, c.slot))).length + 1)

/-- The outstanding command's fields (R140). -/
def Part.outstandingFields (p : Part) (c : Option Cmd) : List Field :=
  [.opt 1 (c.map fun x => x.action.code), .opt 1 (c.bind (·.target)), .opt 1 (c.map fun x => x.cls.code)] ++
  originFields (c.map (·.origin)) ++
  [.opt 1 (c.map fun x => x.sent.toNat), .opt 1 (c.map fun x => x.acked.toNat), .opt 1 (c.bind p.queuePlace),
   .opt 4 (c.map fun x => p.msTo x.deadline)]

/-- The held entry's fields (R140). -/
def heldEntryFields (h : Option Held) : List Field :=
  [.opt 1 (h.map (·.trap)), .opt 1 (h.map fun x => x.action.code), .opt 1 (h.bind (·.target)),
   .opt 1 (h.map fun x => x.cause.code)]

/-- Whether a NORMAL CLOSE from the host would now be refused PIG NEAR, the front-most near pig and the number near, a count of 4
bytes (R181); absent for a valve that is not MAINLINE (R140). That the answer is that of the interlock test alone, whatever the tests
before it (claim, valve in motion, trap in sequence) would say, is the model's choice (log entry 48). -/
def Part.interlockNow (p : Part) (station slot : Nat) (v : Valve) : List Field :=
  let near := p.interlockPigs station slot .closing none
  match v.role with
  | .mainline => [.opt 1 (some (!near.isEmpty).toNat), pigOpt (near.head?.map (·.id)), .opt 4 (some near.length)]
  | .barrel | .flow | .equalise => [.opt 1 none, pigOpt none, .opt 4 none]

/-- The fields of QUERY VALVE's reply (R140). -/
def Part.valveFields (p : Part) (station slot : Nat) (v : Valve) : List Field :=
  let r := Table.get p.cmds.valves (valveKey station slot)
  [u8 v.role.code, u8 v.actuator.val, u16 v.stroke, .opt 1 ((p.map.claim station).map (·.val))] ++
  p.namingFields station slot ++
  [.opt 1 (r.bind (·.position)), .opt 1 ((r.bind (·.state)).map ValveState.code), timeOpt (r.bind (·.time))] ++
  p.outstandingFields (p.cmds.find station slot) ++
  heldEntryFields (p.cmds.held.find? fun h => h.station == station && h.slot == slot) ++ p.interlockNow station slot v

/-- QUERY VALVE carried through (R140). -/
def Part.serveQueryValve (p : Part) (f : Frame) : Part :=
  let station := fieldAt f.body 0 1
  let slot := fieldAt f.body 1 1
  if RecordKind.valve.inRange (valveKey station slot) then
    match p.map.valve station slot with
    | none => p.answer f .noSuch []
    | some v => p.answer f .ok (p.valveFields station slot v)
  else p.answer f .range []

/-- QUERY_VALVE (R140). -/
def execQueryValve (tag : Byte) (body : List Byte) (s : State) : Host.Outcome State Fault Refusal :=
  goOn s (s.part.request 0x51 tag body 2 everyMode Part.serveQueryValve)

/-! ## The deadline of a command (R137) -/

/-- A valve's command times out: time runs on to its deadline, and the command ends VALVE TIMEOUT (R137, log entry 2). -/
def Part.commandExpires (p : Part) (station slot : Nat) : Part :=
  match p.cmds.find station slot with
  | none => p
  | some c => if p.running then (p.elapseTo c.deadline).endCmd c (.failed .valveTimeout) else p

/-- VALVE_TIMEOUT (R137). -/
def execValveTimeout (station slot : Nat) (s : State) : Host.Outcome State Fault Refusal :=
  goOn s (s.part.commandExpires station slot)

end Sys2Proof.Machine
end

