-- ==== Sys2Proof/Machine/PortCommands.lean ====
section
/-! DEFINITION. The section ports' requests (R156 to R158) and the events of the section lines (R145 to R153, R183). -/

namespace Sys2Proof.Machine

/-! ## QUERY PORT (R156) -/

/-- A queued command in QUERY PORT's reply. -/
def Cmd.queueFields (c : Cmd) : List Field :=
  [u8 c.station, u8 c.slot, u8 c.action.code, .opt 1 c.target, u8 c.cls.code] ++ originFields (some c.origin) ++ [u8 c.sent.toNat]

/-- The in-flight transaction in QUERY PORT's reply. The attempt number and the number of parts taken have 1 byte each, widths the appendix
does not give (log entry 16). -/
def txnFields (t : Option Txn) : List Field :=
  [.opt 1 (t.map fun x => x.sentKind.code), .opt 1 (t.map (·.station)), .opt 1 (t.map (·.attempt)),
   .opt 1 (t.map fun x => x.parts.length)]

/-- The last-failure record in QUERY PORT's reply (R155); its attempt number has 1 byte, a width the appendix does not give (log entry
16). -/
def failureFields (l : Option Failure) : List Field :=
  [.opt 1 (l.map (·.station)), .opt 1 (l.map fun x => x.kind.code), .opt 1 (l.map fun x => x.frame.code),
   .opt 1 (l.map (·.attempt)), timeOpt (l.map (·.time))]

/-- The fields of QUERY PORT's reply (R156). The cycle position is sent as the place in the roster, counted from 0, in 1 byte: neither the
base nor the width is the spec's (log entry 16). -/
def Part.portFields (p : Part) (i : Fin 4) : List Field :=
  let c := p.rosterOf i
  let r := p.port i
  u8 c.stations.length :: c.stations.flatMap (fun x => [u8 x, u8 (p.live x).code]) ++
  [flag (p.lineMap.working.rosters.get i != c), u16 c.replyTimeout, u8 c.retryLimit, u16 c.pollGap, u8 r.cycle,
   flag r.watchDue, .opt 1 r.watchPtr] ++ listU8 (p.watchSet i) ++
  u8 (p.queuedOn i).length :: (p.queuedOn i).flatMap Cmd.queueFields ++ txnFields r.txn ++ failureFields r.lastFailure

/-- A request that names a port: RANGE outside 0..3. -/
def Part.onPort (p : Part) (f : Frame) (act : Fin 4 → Part) : Part :=
  match fourOf (fieldAt f.body 0 1) with
  | none => p.answer f .range []
  | some i => act i

/-- QUERY PORT carried through (R156). -/
def Part.serveQueryPort (p : Part) (f : Frame) : Part := p.onPort f fun i => p.answer f .ok (p.portFields i)

/-- QUERY_PORT (R156). -/
def execQueryPort (tag : Byte) (body : List Byte) (s : State) : Host.Outcome State Fault Refusal :=
  goOn s (s.part.request 0x60 tag body 1 everyMode Part.serveQueryPort)

/-! ## QUERY STATION (R157) -/

/-- A station's attribution record in QUERY STATION's reply (R157). That the trip and tag baselines, which may be absent and reach all ones,
have a presence byte is the model's choice, R182's criterion and its list being at odds there (log entry 38). -/
def attrFields (a : StationAttr) : List Field :=
  [flag a.baseline.isSome, .pres 1 (a.baseline.map fun b => b.1.toNat), .pres 1 (a.baseline.map fun b => b.2.toNat),
   .pres 8 a.lastPassage, u32 a.doubles, flag a.recovery] ++ listPigs a.expected ++ listPigs a.unobserved

/-- The lists of the receiver traps at a station, after their number (R157). The trap's index, 1 byte, that precedes each list, and their
rising order, are the model's choice: R157 gives only the contents (log entry 16). -/
def Part.receiverFields (p : Part) (x : Nat) : List Field :=
  let ts := (p.map.traps.filter fun e => e.2.station == x && e.2.role == .receiver).map Prod.fst
  u8 ts.length :: ts.flatMap fun t => u8 t :: listPigs (p.awaited t)

/-- The fields of QUERY STATION's reply (R157). -/
def Part.stationFields (p : Part) (x : Nat) (a : StationAttr) : List Field :=
  let port := p.map.claim x
  [u8 (p.live x).code, timeOpt ((Table.get p.ports.stations x).bind (·.lastGood)), .opt 1 (port.map (·.val)),
   flag (port.isSome && p.watched x)] ++ attrFields a ++ p.receiverFields x

/-- QUERY STATION carried through (R157). -/
def Part.serveQueryStation (p : Part) (f : Frame) : Part :=
  let x := fieldAt f.body 0 1
  if RecordKind.station.inRange x then
    match Table.get p.map.stations x, Table.get p.attr.stations x with
    | some _, some a => p.answer f .ok (p.stationFields x a)
    | _, _ => p.answer f .noSuch []
  else p.answer f .range []

/-- QUERY_STATION (R157). -/
def execQueryStation (tag : Byte) (body : List Byte) (s : State) : Host.Outcome State Fault Refusal :=
  goOn s (s.part.request 0x61 tag body 1 everyMode Part.serveQueryStation)

/-! ## RESET PORT (R158) -/

/-- RESET PORT carried through; the reply counts the commands ended (R158, log entry 32). -/
def Part.serveResetPort (p : Part) (f : Frame) : Part :=
  p.onPort f fun i => (p.resetPort i).answer f .ok [u32 (p.portCmds i).length]

/-- RESET_PORT (R158). -/
def execResetPort (tag : Byte) (body : List Byte) (s : State) : Host.Outcome State Fault Refusal :=
  goOn s (s.part.request 0x62 tag body 1 everyMode Part.serveResetPort)

/-! ## Events of a section line -/

/-- The part with an event of a section line taken; a part that does not run takes no frame and acts on no deadline (R179). -/
def Part.onLine (p : Part) (act : Part → Part) : Part := if p.running then act p else p

/-- The poll gap has run: time runs on to its end, and the port chooses; with no gap in progress nothing changes (R145, log entry 2). -/
def Part.gapRuns (p : Part) (i : Fin 4) : Part :=
  match (p.port i).gap with
  | none => p
  | some d => ((p.elapseTo d).setPort i fun r => { r with gap := none }).choose i

/-- POLL_GAP_EXPIRY (R145). -/
def execPollGapExpiry (port : Fin 4) (s : State) : Host.Outcome State Fault Refusal :=
  goOn s (s.part.onLine fun p => p.gapRuns port)

/-- SECTION_TRANSMIT_DONE (R147). -/
def execSectionTransmitDone (port : Fin 4) (s : State) : Host.Outcome State Fault Refusal :=
  goOn s (s.part.onLine fun p => p.transmitDone port)

/-- The reply deadline of the attempt that awaits its answer. -/
def Txn.replyDeadline (t : Txn) : Option Tick :=
  match t.phase with
  | .awaiting d => some d
  | .sending | .retryDue => none

/-- The reply deadline of a port expires: time runs on to it, and the attempt fails (R149, log entry 2). -/
def Part.replyDue (p : Part) (i : Fin 4) : Part :=
  match (p.port i).txn with
  | none => p
  | some t =>
    match t.replyDeadline with
    | none => p
    | some d => (p.elapseTo d).replyExpired i t

/-- REPLY_TIMEOUT (R149). -/
def execReplyTimeout (port : Fin 4) (s : State) : Host.Outcome State Fault Refusal :=
  goOn s (s.part.onLine fun p => p.replyDue port)

/-- REPORT: a report frame or a part of one (R151, R153). -/
def execReport (port : Fin 4) (bytes : List Byte) (s : State) : Host.Outcome State Fault Refusal :=
  goOn s (s.part.onLine fun p => p.lineFrame port bytes)

/-- ACK (R135). -/
def execAck (port : Fin 4) (bytes : List Byte) (s : State) : Host.Outcome State Fault Refusal :=
  goOn s (s.part.onLine fun p => p.lineFrame port bytes)

/-- NAK (R148). -/
def execNak (port : Fin 4) (bytes : List Byte) (s : State) : Host.Outcome State Fault Refusal :=
  goOn s (s.part.onLine fun p => p.lineFrame port bytes)

/-- BAD_FRAME: a frame that fails its check or answers wrongly (R148). -/
def execBadFrame (port : Fin 4) (bytes : List Byte) (s : State) : Host.Outcome State Fault Refusal :=
  goOn s (s.part.onLine fun p => p.lineFrame port bytes)

/-- A gap between two bytes of a frame that arrives: the awaiting attempt fails BAD FRAME (R148, R183). -/
def Part.byteGap (p : Part) (i : Fin 4) : Part :=
  match (p.port i).awaits with
  | none => p
  | some t => p.failAttempt i t .badFrame

/-- SECTION_BYTE_GAP (R183). -/
def execSectionByteGap (port : Fin 4) (s : State) : Host.Outcome State Fault Refusal :=
  goOn s (s.part.onLine fun p => p.byteGap port)

end Sys2Proof.Machine
end

