-- ==== Sys2Proof/Machine/RecordCommands.lean ====
section
/-! DEFINITION. Reading run records through the cursor (R164 to R166). -/

namespace Sys2Proof.Machine

/-- The number of entries that one reply returns at most (R164, R165). -/
def entryLimit : Nat := 8

/-- The record that RECORD START finds: open records first, then completed ones from the newest (R164). -/
def Records.find (rs : Records) (id : Nat) : Option RunRec :=
  (rs.active.find? fun r => r.id == id).or (rs.completed.reverse.find? fun r => r.id == id)

/-- The record under the cursor, open or completed. -/
def Records.bySerial (rs : Records) (serial : Nat) : Option RunRec :=
  (rs.active ++ rs.completed).find? fun r => r.serial == serial

/-- The entries returned from a position. -/
def RunRec.piece (r : RunRec) (pos : Nat) : List Entry := (r.entries.drop pos).take entryLimit

/-- The flags byte: truncated, and END when the reply leaves no entry unread (A.1). -/
def RunRec.flagByte (r : RunRec) (pos : Nat) : Nat :=
  flagSet [r.truncated, r.entries.length ≤ pos + (r.piece pos).length]

/-- The header that RECORD START returns (R164, A.1). -/
def RunRec.headerFields (r : RunRec) : List Field :=
  [u16 r.id, u16 r.tag, u8 r.kind.code, u32 r.opened.secs.toNat] ++ r.location.fields ++
  [.opt 1 (r.outcome.map Result.code), timeOpt r.closed, u32 r.entries.length, u8 (r.flagByte 0), u16 r.dropped]

/-- What RECORD NEXT returns ahead of its entries (R165, A.1). The index takes one byte, and with no entry to return it is the one that the
next entry would have, pos + 1: the model's choices, R165 giving neither (log entry 16). -/
def RunRec.nextFields (r : RunRec) (pos : Nat) : List Field :=
  [u16 r.id] ++ r.location.fields ++
  [.opt 1 (r.outcome.map Result.code), u32 r.entries.length, u8 (r.flagByte pos), u8 (pos + 1)]

/-- The part with its record cursor replaced. -/
def Part.setCursor (p : Part) (c : Cursor) : Part := { p with records := { p.records with cursor := c } }

/-- RECORD START carried through (R164). -/
def Part.serveRecordStart (p : Part) (f : Frame) : Part :=
  let id := fieldAt f.body 0 2
  if id = 0 then p.answer f .range []
  else
    match p.records.find id with
    | none => p.answer f .noSuch []
    | some r =>
      (p.setCursor (.opened r.serial (r.piece 0).length)).answer f .ok
        (r.headerFields ++ (r.piece 0).flatMap Entry.fields)

/-- RECORD_START (R164). -/
def execRecordStart (tag : Byte) (body : List Byte) (s : State) : Host.Outcome State Fault Refusal :=
  goOn s (s.part.request 0x70 tag body 2 everyMode Part.serveRecordStart)

/-- RECORD NEXT carried through (R165, R166). -/
def Part.serveRecordNext (p : Part) (f : Frame) : Part :=
  match p.records.cursor with
  | .closed => p.answer f .noCursor []
  | .stranded id pos => (p.setCursor .closed).answer f .gone [u16 id, u8 (pos + 1)]
  | .opened serial pos =>
    match p.records.bySerial serial with
    | none => p.answer f .noCursor []
    | some r =>
      (p.setCursor (.opened serial (pos + (r.piece pos).length))).answer f .ok
        (r.nextFields pos ++ (r.piece pos).flatMap Entry.fields)

/-- RECORD_NEXT (R165). -/
def execRecordNext (tag : Byte) (body : List Byte) (s : State) : Host.Outcome State Fault Refusal :=
  goOn s (s.part.request 0x71 tag body 0 everyMode Part.serveRecordNext)

end Sys2Proof.Machine
end

