-- ==== Sys2Proof/Machine/Dispatch.lean ====
section
/-! DEFINITION. One arm for each command, one direct call of its meaning. -/

namespace Sys2Proof.Machine

def exec (i : Instr) (s : State) : Host.Outcome State Fault Refusal :=
  match i with
  | .supplyApplied => Sys2Proof.Machine.execSupplyApplied s
  | .resetAsserted => Sys2Proof.Machine.execResetAsserted s
  | .resetHoldExpiry => Sys2Proof.Machine.execResetHoldExpiry s
  | .resetReleased => Sys2Proof.Machine.execResetReleased s
  | .supervisorFrame bytes => Sys2Proof.Machine.execSupervisorFrame bytes s
  | .interByteTimeout => Sys2Proof.Machine.execInterByteTimeout s
  | .unknownRequest kind tag body => Sys2Proof.Machine.execUnknownRequest kind tag body s
  | .ident tag body => Sys2Proof.Machine.execIdent tag body s
  | .setClock tag body => Sys2Proof.Machine.execSetClock tag body s
  | .fetchNotices tag body => Sys2Proof.Machine.execFetchNotices tag body s
  | .setMode tag body => Sys2Proof.Machine.execSetMode tag body s
  | .restart tag body => Sys2Proof.Machine.execRestart tag body s
  | .warmRestart => Sys2Proof.Machine.execWarmRestart s
  | .mapWrite tag body => Sys2Proof.Machine.execMapWrite tag body s
  | .mapClear tag body => Sys2Proof.Machine.execMapClear tag body s
  | .mapDiscard tag body => Sys2Proof.Machine.execMapDiscard tag body s
  | .mapRead tag body => Sys2Proof.Machine.execMapRead tag body s
  | .mapCommit tag body verified => Sys2Proof.Machine.execMapCommit tag body verified s
  | .mapIdent tag body => Sys2Proof.Machine.execMapIdent tag body s
  | .mapLocate tag body => Sys2Proof.Machine.execMapLocate tag body s
  | .rosterSet tag body => Sys2Proof.Machine.execRosterSet tag body s
  | .queryMeter tag body => Sys2Proof.Machine.execQueryMeter tag body s
  | .querySection tag body => Sys2Proof.Machine.execQuerySection tag body s
  | .unfreezeCredit tag body => Sys2Proof.Machine.execUnfreezeCredit tag body s
  | .unfreezeDiscard tag body => Sys2Proof.Machine.execUnfreezeDiscard tag body s
  | .declarePig tag body => Sys2Proof.Machine.execDeclarePig tag body s
  | .fixPig tag body => Sys2Proof.Machine.execFixPig tag body s
  | .writeOffPig tag body => Sys2Proof.Machine.execWriteOffPig tag body s
  | .queryPig tag body => Sys2Proof.Machine.execQueryPig tag body s
  | .queryRunTable tag body => Sys2Proof.Machine.execQueryRunTable tag body s
  | .loadPig tag body => Sys2Proof.Machine.execLoadPig tag body s
  | .launch tag body => Sys2Proof.Machine.execLaunch tag body s
  | .receiveArm tag body => Sys2Proof.Machine.execReceiveArm tag body s
  | .transfer tag body => Sys2Proof.Machine.execTransfer tag body s
  | .removePig tag body => Sys2Proof.Machine.execRemovePig tag body s
  | .abort tag body => Sys2Proof.Machine.execAbort tag body s
  | .resume tag body => Sys2Proof.Machine.execResume tag body s
  | .queryTrap tag body => Sys2Proof.Machine.execQueryTrap tag body s
  | .valve tag body => Sys2Proof.Machine.execValve tag body s
  | .queryValve tag body => Sys2Proof.Machine.execQueryValve tag body s
  | .queryPort tag body => Sys2Proof.Machine.execQueryPort tag body s
  | .queryStation tag body => Sys2Proof.Machine.execQueryStation tag body s
  | .resetPort tag body => Sys2Proof.Machine.execResetPort tag body s
  | .recordStart tag body => Sys2Proof.Machine.execRecordStart tag body s
  | .recordNext tag body => Sys2Proof.Machine.execRecordNext tag body s
  | .pollGapExpiry port => Sys2Proof.Machine.execPollGapExpiry port s
  | .sectionTransmitDone port => Sys2Proof.Machine.execSectionTransmitDone port s
  | .replyTimeout port => Sys2Proof.Machine.execReplyTimeout port s
  | .report port bytes => Sys2Proof.Machine.execReport port bytes s
  | .ack port bytes => Sys2Proof.Machine.execAck port bytes s
  | .nak port bytes => Sys2Proof.Machine.execNak port bytes s
  | .badFrame port bytes => Sys2Proof.Machine.execBadFrame port bytes s
  | .valveTimeout station slot => Sys2Proof.Machine.execValveTimeout station slot s
  | .equaliseTimeout trap => Sys2Proof.Machine.execEqualiseTimeout trap s
  | .driveTimeout trap => Sys2Proof.Machine.execDriveTimeout trap s
  | .divertingTimeout trap => Sys2Proof.Machine.execDivertingTimeout trap s
  | .lossOfSupply bankWrite => Sys2Proof.Machine.execLossOfSupply bankWrite s
  | .sectionByteGap port => Sys2Proof.Machine.execSectionByteGap port s

end Sys2Proof.Machine
end

