-- ==== Sys2Proof/Machine/Step.lean ====
section
/-! DEFINITION. One step: the command at the front of the queue, or a millisecond of idling. -/

namespace Sys2Proof.Machine

/-- A millisecond passes on the clocks of a part that runs; deadlines act only as commands of their own (R174, log entry 1). -/
def State.idle (s : State) : State :=
  if s.part.running then { s with part := { s.part with clocks := s.part.clocks.elapse 1 } } else s

/-- Take the command at the front of the queue and run it with the queue's rest; with none waiting, a millisecond passes. -/
def step (s : State) : Host.Outcome State Fault Refusal :=
  match s.pending with
  | [] => .next s.idle
  | c :: rest => exec c { s with pending := rest }

/-- The state with the command that a word spells put at the front of its queue; no word spells one. -/
def State.withFetchWord (s : State) (nbits w : Nat) : State :=
  match decodeTableWord nbits w with
  | none => s
  | some c => { s with pending := c :: s.pending }

end Sys2Proof.Machine
end

