-- ==== Sys2Proof/WellFormed.lean ====
section
/-! DEFINITION. Which commands the environment of the PRC-416 can send: operands in the ranges that Appendix A and the identities
of the manual give. The machine takes every command, well formed or not; a well-formed one is what a row of the table means. -/

namespace Sys2Proof

open Sys2Proof.Machine

/-- A request's body is at most 512 bytes long (R182). -/
def bodyFits (body : List Byte) : Bool := body.length ≤ 512

/-- The bytes are a section-line frame that passes its check and is of a kind (R183). -/
def isLineFrame (kind : Byte) (bytes : List Byte) : Bool := (checkFrame bytes).any fun f => f.kind == kind

/-- A station's identity is 1..64. -/
def stationIndexOk (x : Nat) : Bool := 1 ≤ x && x ≤ 64

/-- A valve's slot is 1..6. -/
def slotIndexOk (x : Nat) : Bool := 1 ≤ x && x ≤ 6

/-- A trap's identity is 1..16. -/
def trapIndexOk (t : Nat) : Bool := 1 ≤ t && t ≤ 16

/-- The operands of a command are such as its row can carry. -/
def Instr.wellFormed : Instr → Bool
  | .supplyApplied => true
  | .resetAsserted => true
  | .resetHoldExpiry => true
  | .resetReleased => true
  | .supervisorFrame _ => true
  | .interByteTimeout => true
  | .unknownRequest kind _ body => !requestKinds.contains kind.toNat && bodyFits body
  | .ident _ body => bodyFits body
  | .setClock _ body => bodyFits body
  | .fetchNotices _ body => bodyFits body
  | .setMode _ body => bodyFits body
  | .restart _ body => bodyFits body
  | .warmRestart => true
  | .mapWrite _ body => bodyFits body
  | .mapClear _ body => bodyFits body
  | .mapDiscard _ body => bodyFits body
  | .mapRead _ body => bodyFits body
  | .mapCommit _ body _ => bodyFits body
  | .mapIdent _ body => bodyFits body
  | .mapLocate _ body => bodyFits body
  | .rosterSet _ body => bodyFits body
  | .queryMeter _ body => bodyFits body
  | .querySection _ body => bodyFits body
  | .unfreezeCredit _ body => bodyFits body
  | .unfreezeDiscard _ body => bodyFits body
  | .declarePig _ body => bodyFits body
  | .fixPig _ body => bodyFits body
  | .writeOffPig _ body => bodyFits body
  | .queryPig _ body => bodyFits body
  | .queryRunTable _ body => bodyFits body
  | .loadPig _ body => bodyFits body
  | .launch _ body => bodyFits body
  | .receiveArm _ body => bodyFits body
  | .transfer _ body => bodyFits body
  | .removePig _ body => bodyFits body
  | .abort _ body => bodyFits body
  | .resume _ body => bodyFits body
  | .queryTrap _ body => bodyFits body
  | .valve _ body => bodyFits body
  | .queryValve _ body => bodyFits body
  | .queryPort _ body => bodyFits body
  | .queryStation _ body => bodyFits body
  | .resetPort _ body => bodyFits body
  | .recordStart _ body => bodyFits body
  | .recordNext _ body => bodyFits body
  | .pollGapExpiry _ => true
  | .sectionTransmitDone _ => true
  | .replyTimeout _ => true
  | .report _ bytes => isLineFrame kindReport bytes
  | .ack _ bytes => isLineFrame kindAck bytes
  | .nak _ bytes => isLineFrame kindNak bytes
  | .badFrame _ _ => true
  | .valveTimeout station slot => stationIndexOk station && slotIndexOk slot
  | .equaliseTimeout trap => trapIndexOk trap
  | .driveTimeout trap => trapIndexOk trap
  | .divertingTimeout trap => trapIndexOk trap
  | .lossOfSupply _ => true
  | .sectionByteGap _ => true

/-- The supervisor frame that a request row stands for (R170, R182); none for the other rows. -/
def Instr.frame : Instr → Option Frame
  | .unknownRequest kind tag body => some { kind, tag, body }
  | .ident tag body => some (requestFrame 0x01 tag body)
  | .setClock tag body => some (requestFrame 0x02 tag body)
  | .fetchNotices tag body => some (requestFrame 0x03 tag body)
  | .setMode tag body => some (requestFrame 0x04 tag body)
  | .restart tag body => some (requestFrame 0x05 tag body)
  | .mapWrite tag body => some (requestFrame 0x10 tag body)
  | .mapClear tag body => some (requestFrame 0x11 tag body)
  | .mapDiscard tag body => some (requestFrame 0x12 tag body)
  | .mapCommit tag body _ => some (requestFrame 0x13 tag body)
  | .mapRead tag body => some (requestFrame 0x14 tag body)
  | .mapIdent tag body => some (requestFrame 0x15 tag body)
  | .mapLocate tag body => some (requestFrame 0x16 tag body)
  | .rosterSet tag body => some (requestFrame 0x17 tag body)
  | .queryMeter tag body => some (requestFrame 0x20 tag body)
  | .querySection tag body => some (requestFrame 0x21 tag body)
  | .unfreezeCredit tag body => some (requestFrame 0x22 tag body)
  | .unfreezeDiscard tag body => some (requestFrame 0x23 tag body)
  | .declarePig tag body => some (requestFrame 0x30 tag body)
  | .fixPig tag body => some (requestFrame 0x31 tag body)
  | .writeOffPig tag body => some (requestFrame 0x32 tag body)
  | .queryPig tag body => some (requestFrame 0x33 tag body)
  | .queryRunTable tag body => some (requestFrame 0x34 tag body)
  | .loadPig tag body => some (requestFrame 0x40 tag body)
  | .launch tag body => some (requestFrame 0x41 tag body)
  | .receiveArm tag body => some (requestFrame 0x42 tag body)
  | .transfer tag body => some (requestFrame 0x43 tag body)
  | .removePig tag body => some (requestFrame 0x44 tag body)
  | .abort tag body => some (requestFrame 0x45 tag body)
  | .resume tag body => some (requestFrame 0x46 tag body)
  | .queryTrap tag body => some (requestFrame 0x47 tag body)
  | .valve tag body => some (requestFrame 0x50 tag body)
  | .queryValve tag body => some (requestFrame 0x51 tag body)
  | .queryPort tag body => some (requestFrame 0x60 tag body)
  | .queryStation tag body => some (requestFrame 0x61 tag body)
  | .resetPort tag body => some (requestFrame 0x62 tag body)
  | .recordStart tag body => some (requestFrame 0x70 tag body)
  | .recordNext tag body => some (requestFrame 0x71 tag body)
  | .supplyApplied | .resetAsserted | .resetHoldExpiry | .resetReleased | .supervisorFrame _ | .interByteTimeout | .warmRestart
  | .pollGapExpiry _ | .sectionTransmitDone _ | .replyTimeout _ | .report _ _ | .ack _ _ | .nak _ _ | .badFrame _ _
  | .valveTimeout _ _ | .equaliseTimeout _ | .driveTimeout _ | .divertingTimeout _ | .lossOfSupply _ | .sectionByteGap _ => none

end Sys2Proof
end

