-- ==== Sys2Proof/Safety.lean ====
section
/-! DEFINITION. What the statements about the machine speak of: when a request's turn has come, the manual's tables of body
lengths (A.1) and of modes (R178), and the invariants of the part. -/

namespace Sys2Proof.Machine

/-! ## A request's turn -/

/-- The part runs and takes this frame now; `l` is the link once the frame has left the buffer (R170). -/
def Part.turnOf (p : Part) (f : Frame) (l : Link) : Prop := p.running = true ∧ p.link.takes f = some l

/-- The machine with its part replaced, the waiting commands as they are. -/
def State.become (s : State) (p : Part) : State := { s with part := p }

/-- The reply to a request frame (R170). -/
def replyTo (f : Frame) (code : ReplyCode) (fields : List Field) : Reply := { kind := f.kind, tag := f.tag, code, fields }

/-- The part when a request has had no effect but that its frame has left the buffer and its reply has been formed. -/
def Part.onlyReplies (p : Part) (l : Link) (f : Frame) (code : ReplyCode) (fields : List Field) : Part :=
  { p with link := l, out := { p.out with replies := p.out.replies ++ [replyTo f code fields] } }

/-- One reply has been formed between two states of the part: this one. -/
def Part.repliedSince (q p : Part) (f : Frame) (code : ReplyCode) (fields : List Field) : Prop :=
  q.out.replies = p.out.replies ++ [replyTo f code fields]

/-- Everything that no work on pigs, lists, traps and commands touches is as it was: supply, clocks, map, the meters and sections
of the meter unit, the stations' liveness, the lines and the mode. -/
def Part.sameAround (q p : Part) : Prop :=
  q.power = p.power ∧ q.clocks = p.clocks ∧ q.lineMap = p.lineMap ∧ q.meters = p.meters ∧ q.ports.stations = p.ports.stations ∧
    q.out.lines = p.out.lines ∧ q.link.mode = p.link.mode

end Sys2Proof.Machine

namespace Sys2Proof

open Sys2Proof.Machine

/-! ## The tables of requests (R178, A.1) -/

/-- The body length that a request allows (A.1). -/
def Instr.lengthOk : Instr → Bool
  | .ident _ b | .fetchNotices _ b | .restart _ b | .mapDiscard _ b | .mapCommit _ b _ | .mapIdent _ b
  | .unfreezeCredit _ b | .unfreezeDiscard _ b | .queryRunTable _ b | .recordNext _ b => b.length == 0
  | .setMode _ b | .queryMeter _ b | .querySection _ b | .launch _ b | .receiveArm _ b | .transfer _ b | .removePig _ b
  | .abort _ b | .resume _ b | .queryTrap _ b | .queryPort _ b | .queryStation _ b | .resetPort _ b => b.length == 1
  | .writeOffPig _ b | .queryPig _ b | .queryValve _ b | .recordStart _ b => b.length == 2
  | .mapClear _ b => b.length == 3
  | .setClock _ b => b.length == 4
  | .mapRead _ b | .mapLocate _ b | .valve _ b => b.length == 5
  | .fixPig _ b => b.length == 6
  | .loadPig _ b => b.length == 8
  | .declarePig _ b => b.length == 11
  | .mapWrite _ b => mapWriteLength b
  | .rosterSet _ b => rosterSetLength b
  | _ => true

/-- The modes a request is open in (R178); VALVE is passed on in every mode (R170). -/
def Instr.openIn : Instr → Mode → Bool
  | .mapWrite _ _, m | .mapClear _ _, m | .mapDiscard _ _, m | .mapCommit _ _ _, m | .rosterSet _ _, m => m == .setup
  | .unfreezeCredit _ _, m | .unfreezeDiscard _ _, m => m == .frozen
  | .declarePig _ _, m | .loadPig _ _, m | .launch _ _, m => m == .tracking
  | .fixPig _ _, m | .writeOffPig _ _, m | .receiveArm _ _, m | .transfer _ _, m | .removePig _ _, m | .abort _ _, m
  | .resume _ _, m => m != .setup
  | _, _ => true

/-- The request's kind names no request (R170). -/
def Instr.unknown : Instr → Bool
  | .unknownRequest _ _ _ => true
  | _ => false

/-- The commands that act on a part that does not run: the supply's, and those of the reset input (R179). -/
def Instr.reachesStopped : Instr → Bool
  | .supplyApplied | .resetAsserted | .resetHoldExpiry | .resetReleased | .lossOfSupply _ => true
  | _ => false

end Sys2Proof

namespace Sys2Proof.Machine

/-! ## Invariants -/

/-- The link's queue, buffer and counts stay within their bounds (R168, R169, R172). -/
def Link.Bounded (l : Link) : Prop :=
  l.notices.length ≤ 64 ∧ l.buffer.length ≤ 4 ∧ l.overflow ≤ 65535 ∧ l.badFrames ≤ 65535 ∧ l.fullBuffers ≤ 65535

/-- A run record's entries and its count of dropped entries stay within their bounds, and entries are dropped only by a record
that is full (R160, R162). -/
def RunRec.Bounded (r : RunRec) : Prop :=
  r.entries.length ≤ 48 ∧ r.dropped ≤ 65535 ∧ (r.truncated = true → r.entries.length = 48)

/-- Every run record is within its bounds, and at most 8 are completed (R160, R163). -/
def Records.Bounded (rs : Records) : Prop :=
  rs.completed.length ≤ 8 ∧ ∀ r ∈ rs.active ++ rs.completed, r.Bounded

/-- At most 24 commands, and at most one per valve (R126). -/
def CmdTable.Bounded (t : CmdTable) : Prop :=
  t.cmds.length ≤ 24 ∧ (t.cmds.map fun c => (c.station, c.slot)).Nodup

/-- A meter's totaliser and residue account for every count taken, at the meter's weight (R31). -/
def MeterRec.Accounts (r : MeterRec) (w : Nat) : Prop := r.totaliser * 1000 + r.residue = r.counts * w ∧ r.residue < 1000

/-- Every meter of the committed map accounts for its counts (R31). -/
def Part.MetersAccount (p : Part) : Prop :=
  ∀ n m r, Table.get p.map.meters n = some m → Table.get p.meters.meters n = some r → r.Accounts m.weight

/-- The keys of a table rise strictly, so that no two records stand under one key. -/
def Table.Rising {α : Type} (t : Table α) : Prop := (Table.keys t).Pairwise (· < ·)

/-- The trap tables of every copy of the map, and the trap records, stand under rising keys. -/
def Part.TrapsRising (p : Part) : Prop :=
  Table.Rising p.lineMap.working.traps ∧ Table.Rising p.lineMap.committed.traps ∧
    (∀ b, p.lineMap.bank0 = some b → Table.Rising b.map.traps) ∧ (∀ b, p.lineMap.bank1 = some b → Table.Rising b.map.traps) ∧
    Table.Rising p.traps

/-- The identities in the run table, and then those in the traps' holdings (R46). -/
def Part.identities (p : Part) : List Nat :=
  p.run.pigs.map (·.id) ++ p.traps.filterMap fun e => e.2.holding.map (·.id)

/-- No identity is held by two pigs at once among the run table and all trap holdings (R46). -/
def Part.IdentitiesDistinct (p : Part) : Prop := p.identities.Nodup

/-- The run table stands in order of P, front-most first (R47), under distinct identities (R46). -/
def OrderedPigs (pigs : List Pig) : Prop := pigs.Pairwise (fun a b => b.P ≤ a.P) ∧ (pigs.map (·.id)).Nodup

/-- A pig that is STUCK SUSPECT is OVERDUE (R92). -/
def Pig.LateFlagsAgree (g : Pig) : Prop := g.stuck = true → g.overdue = true

/-- What the run table tracks of a pig: identity, place, metered litres, overrun, slip and slip residue (R44). -/
def Pig.tracked (g : Pig) : Nat × Nat × Nat × Nat × Nat × Nat := (g.id, g.P, g.M, g.O, g.slip, g.rp)

/-- The default slips of a tuning record lie within 0..2,500 (R8). -/
def Tuning.SlipsInRange (t : Tuning) : Prop :=
  t.slipScraper ≤ 2500 ∧ t.slipBrush ≤ 2500 ∧ t.slipCup ≤ 2500 ∧ t.slipFoam ≤ 2500

/-- Every slip lies within 0..2,500, in the line, in the holdings, and among the defaults of the committed copy and of the banks;
every slip residue lies within 0..9,999 (R8, R44). -/
def Part.SlipsInRange (p : Part) : Prop :=
  (∀ g ∈ p.run.pigs, g.slip ≤ 2500 ∧ g.rp < 10000) ∧ (∀ e ∈ p.traps, ∀ h, e.2.holding = some h → h.slip ≤ 2500) ∧
    p.lineMap.committed.tuning.SlipsInRange ∧ (∀ b, p.lineMap.bank0 = some b → b.map.tuning.SlipsInRange) ∧
    (∀ b, p.lineMap.bank1 = some b → b.map.tuning.SlipsInRange)

/-- Every actuator table of a map has 16 entries of at most 100 (R7). -/
def MapCopy.ActuatorsWhole (m : MapCopy) : Prop := ∀ i, (m.actuators.get i).length = 16 ∧ ∀ x ∈ m.actuators.get i, x ≤ 100

/-- Every actuator table of both copies of the map and of both banks has 16 entries of at most 100 (R7). -/
def Part.ActuatorsWhole (p : Part) : Prop :=
  p.lineMap.working.ActuatorsWhole ∧ p.lineMap.committed.ActuatorsWhole ∧ (∀ b, p.lineMap.bank0 = some b → b.map.ActuatorsWhole) ∧
    ∀ b, p.lineMap.bank1 = some b → b.map.ActuatorsWhole

/-- Every identity on a station's expected-passage list is that of a pig of the run table that stands at or below the station (R69 to
R71). -/
def Part.ListsAhead (p : Part) : Prop :=
  ∀ e ∈ p.attr.stations, ∀ id ∈ e.2.expected, ∃ g ∈ p.run.pigs, g.id = id ∧ g.P ≤ p.map.stationCoord e.1

/-- A launcher whose sequence is in progress with its pig still in the holding has its slot of the run table reserved (R48, R49). -/
def Part.LaunchesReserved (p : Part) : Prop :=
  ∀ e ∈ p.traps, p.roleOf e.1 = some .launcher → e.2.state.inProgress = true → e.2.holding.isSome = true → e.1 ∈ p.run.reservations

/-- A trap's step is its state while that is active, the active state at which it stopped in FAULT and SUSPENDED, and none at rest (R98,
R99). -/
def TrapRec.StepAgrees (r : TrapRec) : Prop :=
  if r.state.active = true then r.step = some r.state
  else if r.state.inProgress = true then r.step.map TrapState.active = some true
  else r.step = none

/-- Every trap's step agrees with its state (R98, R99). -/
def Part.StepsAgree (p : Part) : Prop := ∀ e ∈ p.traps, e.2.StepAgrees

/-- The run table stands in order of P with distinct identities, and its pigs and reservations take at most 12 slots (R46 to R48); with
what keeps it so: the trap tables, the identities, the lists, the reservations and the steps. -/
def Part.RunTableSound (p : Part) : Prop :=
  OrderedPigs p.run.pigs ∧ p.run.pigs.length + p.run.reservations.length ≤ 12 ∧ p.TrapsRising ∧ p.IdentitiesDistinct ∧ p.ListsAhead ∧
    p.LaunchesReserved ∧ p.StepsAgree

/-- A trap is free to start a sequence (R101). -/
def Part.FreeToStart (p : Part) (t : Nat) (m : Trap) : Prop :=
  (∀ u ∈ p.sharers t m, (p.trapState u).inProgress = false) ∧
    (∀ c ∈ p.cmds.cmds, c.station = m.station → c.slot ∉ m.slots) ∧ ∃ i, p.map.claim m.station = some i

/-- A command QUEUED at this moment with class NORMAL, as its record is created (R126, R133). -/
def Part.queuedCmd (p : Part) (station slot : Nat) (action : Action) (target : Option Nat) (origin : Origin) (i : Fin 4) : Cmd :=
  { station, slot, action, target, cls := .normal, origin, port := i, sent := false, acked := false,
    deadline := p.strokeDeadline station slot, placed := p.clocks.tick }

/-- A trap's record in a step, with its deadline, its hold reason and its commands (R98, R99). -/
def TrapRec.inStep (r : TrapRec) (s : TrapState) (deadline : Option Tick) (hold : HoldReason) (cmds : List StepCmd) : TrapRec :=
  { r with state := s, step := some s, deadline := deadline, hold := hold, cmds := cmds }

/-- Between two states of the part trap t has taken record x, and its commands `placed` have been placed on port i, last in the table
and in the queue; no other trap and no other port is touched (R104, R133). -/
def Part.Stepped (q p : Part) (t : Nat) (i : Fin 4) (x : TrapRec) (placed : List Cmd) : Prop :=
  Table.get q.traps t = some x ∧ (∀ u, u ≠ t → Table.get q.traps u = Table.get p.traps u) ∧
    q.cmds = { p.cmds with cmds := p.cmds.cmds ++ placed } ∧ (∀ j, j ≠ i → q.port j = p.port j) ∧
    q.port i = { p.port i with queue := (p.port i).queue ++ placed.map fun c => (c.station, c.slot) }

/-- Port i claims a trap's station and has room, as the table has, for `n` commands on valves that have none outstanding, and no command
of the trap is held (R104, R128, R129, R133). -/
def Part.RoomFor (p : Part) (t : Nat) (m : Trap) (i : Fin 4) (n : Nat) (slots : List Nat) : Prop :=
  p.map.claim m.station = some i ∧ p.cmds.cmds.length + n ≤ 24 ∧ (p.port i).queue.length + n ≤ 8 ∧
    (∀ c ∈ p.cmds.cmds, c.station = m.station → c.slot ∉ slots) ∧ ∀ h ∈ p.cmds.held, h.trap ≠ t

/-- Between two states of the part a sequence has started at trap t as record x, and its EQUALISE OPEN has been placed on port i, or is
held when the table or the port's queue is full (R103, R104, R111, R133); no other trap and no other port is touched. -/
def Part.Started (q p : Part) (t : Nat) (m : Trap) (i : Fin 4) (x : TrapRec) : Prop :=
  let opens := fun (cond : StepCond) => [({ role := .equalise, action := .opening, cond := cond } : StepCmd)]
  let v := (m.station, m.equalise)
  (∀ u, u ≠ t → Table.get q.traps u = Table.get p.traps u) ∧ (∀ j, j ≠ i → q.port j = p.port j) ∧ q.cmds.valves = p.cmds.valves ∧
    (p.cmds.cmds.length < 24 → (p.port i).queue.length < 8 →
      Table.get q.traps t = some { x with hold := .none, cmds := opens .placed } ∧
      q.cmds.cmds = p.cmds.cmds ++ [p.queuedCmd m.station m.equalise .opening none (.sequence t) i] ∧
      q.cmds.held = p.cmds.held ∧ q.port i = { p.port i with queue := (p.port i).queue ++ [v] }) ∧
    (¬(p.cmds.cmds.length < 24 ∧ (p.port i).queue.length < 8) →
      Table.get q.traps t = some { x with hold := .portSpace, cmds := opens .held } ∧ q.cmds.cmds = p.cmds.cmds ∧
      q.cmds.held = p.cmds.held ++
        [{ trap := t, station := m.station, slot := m.equalise, action := .opening, target := none,
           cause := if p.cmds.cmds.length < 24 then .portSpace else .tableSpace }] ∧
      q.port i = p.port i)

/-- The VALVE FAILED notice of a host command that ends for a reason of this code, with what the part last heard of the valve (R138). -/
def Part.failedNotice (p : Part) (c : Cmd) (reason : Nat) : Notice :=
  let v := Table.get p.cmds.valves (c.station * 256 + c.slot)
  { kind := .valveFailed, time := { secs := p.clocks.secs, set := p.clocks.set }, pig := none, station := some c.station, trap := none
    detail := [.val 1 c.slot, .val 1 c.action.code, .val 1 c.cls.code, .val 1 reason, .opt 1 (v.bind (·.position)),
      .opt 1 ((v.bind (·.state)).map ValveState.code)] }

/-- The commands of a table but for the one on a valve (R126). -/
def CmdTable.without (t : CmdTable) (station slot : Nat) : List Cmd := t.cmds.filter fun c => !(c.station == station && c.slot == slot)

/-- No trap of the committed map names this valve (R6, R110). -/
def Part.Unnamed (p : Part) (station slot : Nat) : Prop := ∀ e ∈ p.map.traps, ¬(e.2.station = station ∧ slot ∈ e.2.slots)

/-- The active sequence at trap n, not WAITING, has its step's command of this action on this valve PLACED; the map's traps stand under
rising keys, as `Part.TrapsRising` says of every state that a run reaches (R99, R104). -/
def Part.StepPlaced (p : Part) (n : Nat) (m : Trap) (r : TrapRec) (station slot : Nat) (action : Action) : Prop :=
  Table.Rising p.map.traps ∧ Table.get p.map.traps n = some m ∧ Table.get p.traps n = some r ∧ m.station = station ∧
    r.state.active = true ∧ r.state ≠ .waiting ∧ ∃ k ∈ r.cmds, m.slotOf k.role = slot ∧ k.action = action ∧ k.cond = .placed

/-- Between two states of the part the sequence at trap n has faulted for a reason over a valve: its step, holding and target are kept,
its fault is noted and told, its QUEUED commands and its held ones are withdrawn (R104, R118). -/
def Part.FaultedBy (q p : Part) (n : Nat) (m : Trap) (r : TrapRec) (reason : Reason) (slot : Nat) : Prop :=
  let now : Stamp := { secs := p.clocks.secs, set := p.clocks.set }
  (∃ y, Table.get q.traps n = some y ∧ y.state = .fault ∧ y.step = r.step ∧ y.holding = r.holding ∧ y.target = r.target ∧
    y.abort = r.abort ∧ y.hold = .none ∧ y.deadline = none ∧
    y.lastFault = some { reason := reason, step := r.step, slot := some slot, time := now }) ∧
  (∀ c ∈ q.cmds.cmds, c.origin = .sequence n → c.sent = true) ∧ (∀ h ∈ q.cmds.held, h.trap ≠ n) ∧
  q.link = p.link.queue
    { kind := .sequenceFault, time := now, pig := (r.holding.map (·.id)).or r.target, station := some m.station, trap := some n
      detail := [.val 1 reason.code, .opt 1 (r.step.map TrapState.code), .opt 1 (some slot)] }

/-- The commands that pass a test are those that one event at port i may end: each is SENT or stands in the port's queue, and is the host's,
on a valve that no trap names, or a PLACED step command of the sequence at trap k, whose other commands are none. No entry is held, and
the queue holds QUEUED commands alone (R104, R126, R137). -/
def Part.EndableTogether (p : Part) (i : Fin 4) (pick : Cmd → Bool) (k : Nat) (m : Trap) (r : TrapRec) : Prop :=
  p.cmds.held = [] ∧ p.cmds.Bounded ∧ (p.port i).queue.Nodup ∧
    (∀ v ∈ (p.port i).queue, ∀ c, p.cmds.find v.1 v.2 = some c → c.port = i ∧ c.sent = false) ∧
    ∀ c ∈ p.cmds.cmds,
      (pick c = true →
        (c.sent = true ∨ (c.station, c.slot) ∈ (p.port i).queue) ∧
        (c.origin = .host ∧ p.Unnamed c.station c.slot ∨
          c.origin = .sequence k ∧ p.StepPlaced k m r c.station c.slot c.action)) ∧
      (pick c = false → c.origin ≠ .sequence k)

/-- The notices of commands that end together, queued in their order: VALVE FAILED for each of the host's, and one SEQUENCE FAULT where
the first of the sequence at trap k stands (R118, R137, R138). -/
def Part.endingNotices (p : Part) (k : Nat) (m : Trap) (r : TrapRec) (reason : Reason) (first : Cmd) (gone : List Cmd) (l : Link) : Link :=
  gone.foldl
    (fun l c =>
      if c.origin = .host then l.queue (p.failedNotice c reason.code)
      else if c = first then l.queue
        { kind := .sequenceFault, time := { secs := p.clocks.secs, set := p.clocks.set }, pig := (r.holding.map (·.id)).or r.target
          station := some m.station, trap := some k
          detail := [.val 1 reason.code, .opt 1 (r.step.map TrapState.code), .opt 1 (some first.slot)] }
      else l) l

/-- Between two states of the part the commands `gone`, and no others, have left the table, and the sequence at trap k has faulted once,
over the first of its own: every one of its own among them is FAILED, none is withdrawn; no other trap is touched (R104, R118, R137). -/
def Part.EndedTogether (q p : Part) (pick : Cmd → Bool) (k : Nat) (m : Trap) (r : TrapRec) (reason : Reason) (first : Cmd)
    (gone : List Cmd) : Prop :=
  q.cmds = { p.cmds with cmds := p.cmds.cmds.filter fun c => !pick c } ∧ (∀ u, u ≠ k → Table.get q.traps u = Table.get p.traps u) ∧
    Table.get q.traps k = some { r with
      state := .fault, hold := .none, deadline := none
      lastFault := some
        { reason := reason, step := r.step, slot := some first.slot, time := { secs := p.clocks.secs, set := p.clocks.set } }
      cmds := r.cmds.map fun x =>
        if gone.any fun c => decide (c.origin = .sequence k ∧ m.slotOf x.role = c.slot ∧ x.action = c.action) then
          { x with cond := .failed }
        else x }

/-- A port that has started afresh on a roster and made its first choice at once: it polls the roster's first station, and sends nothing
when the roster is empty; its last failure is as given (R141, R145). -/
def PortRec.afresh (stations : List Nat) (lastFailure : Option Failure) : PortRec :=
  let bare : PortRec :=
    { queue := [], txn := none, cycle := 0, watchDue := false, watchPtr := none, lastFailure := lastFailure, gap := none }
  match stations with
  | [] => bare
  | x :: rest =>
    { bare with
      cycle := 1 % (rest.length + 1)
      txn := some
        { sentKind := .poll, station := x, slot := none, ordinary := true, attempt := 0, parts := [], partCount := 0, phase := .sending
          frame := { station := BitVec.ofNat 8 x, kind := 0x01, part := 0x11, body := [] } } }

/-- The frame that port i is transmitting, as the abandoning of its transaction leaves it on the line: cut off (R141). -/
def Part.cutFrame (p : Part) (i : Fin 4) : List LineFrame :=
  match (p.port i).txn with
  | none => []
  | some t => if t.phase = .sending then [{ port := i, frame := t.frame, whole := false }] else []

/-- What the abandoning of every port's transaction leaves on the lines, in port order (R141). -/
def Part.cutFrames (p : Part) : List LineFrame := p.cutFrame 0 ++ p.cutFrame 1 ++ p.cutFrame 2 ++ p.cutFrame 3

/-- The attempt of port i's transaction t awaits its answer until d (R147). -/
def Part.Awaiting (p : Part) (i : Fin 4) (t : Txn) (d : Tick) : Prop := (p.port i).txn = some t ∧ t.phase = .awaiting d

end Sys2Proof.Machine
end

