-- ==== Sys2Proof/Certificates/Slice0/Obligations.lean ====
section
/-! DEFINITION. The statements for the provers. OBLIGATIONS.json gives each its title, its rule and its tier. -/

open Sys2Proof Sys2Proof.Machine

/-! ## The machine as a whole -/

/-- A step runs the command at the front of the queue on the state with the queue's rest. -/
def Obligations.StepRunsFrontCommand : Prop :=
  ∀ (s : State) (c : Instr) (rest : List Instr),
    s.pending = c :: rest → step s = exec c { s with pending := rest }

/-- With no command waiting, a millisecond passes on the clocks of a part that runs and nothing else changes; a part that does not
run stays as it is. That time passes so is the model's choice (log entry 1); the wrap of the tick is R174's. -/
def Obligations.IdleStepLetsAMillisecondPass : Prop :=
  ∀ s : State, s.pending = [] →
    (s.part.running = true → s.part.clocks.sub < 1000 →
      step s = .next (s.become ({ s.part with clocks :=
            { tick := s.part.clocks.tick + 1
              secs := if s.part.clocks.sub = 999 then s.part.clocks.secs + 1 else s.part.clocks.secs
              set := s.part.clocks.set
              sub := if s.part.clocks.sub = 999 then 0 else s.part.clocks.sub + 1 } }))) ∧
    (s.part.running = false → step s = .next s)

/-- Every command goes on to a next state and leaves the waiting commands alone: none faults, none is refused. That a row given ahead of
its turn, or with bytes that are not its own, goes on too is the model's choice (log entries 3 and 14). The next state is left open here:
what each command does is said by its own statement. -/
def Obligations.NoCommandStops : Prop :=
  ∀ (c : Instr) (s : State), ∃ p : Part, exec c s = .next (s.become p)

/-- The invariants of the statements below hold right after reset, which is the model's choice of the supply applied to an empty
non-volatile memory (log entry 5). -/
def Obligations.InvariantsHoldAtReset : Prop :=
  State.reset.part.link.Bounded ∧ State.reset.part.records.Bounded ∧ State.reset.part.cmds.Bounded ∧
    State.reset.part.MetersAccount ∧ State.reset.part.TrapsRising ∧ State.reset.part.IdentitiesDistinct ∧
    State.reset.part.SlipsInRange ∧ OrderedPigs State.reset.part.run.pigs ∧ State.reset.part.RunTableSound ∧
    State.reset.part.ActuatorsWhole ∧ ∀ g ∈ State.reset.part.run.pigs, g.LateFlagsAgree

/-- From every state, a step keeps the notice queue within 64 notices, the input buffer within 4 frames and the three counts within
65,535 (R168, R169, R172). -/
def Obligations.LinkBoundsKept : Prop :=
  ∀ s t : State, s.part.link.Bounded → step s = .next t → t.part.link.Bounded

/-- From every state, a step keeps every run record within 48 entries, truncated only when full, and the completed-run list within 8
records (R160, R162, R163). -/
def Obligations.RecordBoundsKept : Prop :=
  ∀ s t : State, s.part.records.Bounded → step s = .next t → t.part.records.Bounded

/-- From every state, a step keeps the command table within 24 commands and at most one per valve (R126). -/
def Obligations.CommandBoundsKept : Prop :=
  ∀ s t : State, s.part.cmds.Bounded → step s = .next t → t.part.cmds.Bounded

/-- From every state, a step keeps each meter's account: totaliser × 1,000 + residue = counts taken × count weight, and the residue
below 1,000 mL (R31). -/
def Obligations.MetersAccountKept : Prop :=
  ∀ s t : State, s.part.MetersAccount → step s = .next t → t.part.MetersAccount

/-- From every state whose trap tables stand under rising keys, a step keeps them so and never lets one identity stand twice among
the run table and the trap holdings (R46). -/
def Obligations.IdentitiesStayDistinct : Prop :=
  ∀ s t : State, s.part.TrapsRising → s.part.IdentitiesDistinct → step s = .next t →
    t.part.TrapsRising ∧ t.part.IdentitiesDistinct

/-! ## Supply and reset (R24, R179) -/

/-- SUPPLY_APPLIED, the reset input released, on a module whose banks both fail their check leaves the machine's reset state. That reset finds the banks so is the
model's choice (log entry 5). -/
def Obligations.SupplyOnEmptyMemoryGivesReset : Prop :=
  ∀ s : State, s.part.lineMap.bank0 = none → s.part.lineMap.bank1 = none → s.pending = [] →
    s.part.lineMap.storedCount = 0 → s.part.power.resetInput = .released → exec .supplyApplied s = .next State.reset

/-- SUPPLY_APPLIED with a bank that passes its check, and the other failing or holding a smaller commit count: the bank's map is the
working and the committed copy, its count both counts, the banks are as they were; the mode is TRACKING unless the count is 0; the
link, the clocks and every block (meters and sections, run table, attribution, traps, command table, ports, records) stand at their COLD
values, each port having made its first choice unless the reset input is held, and nothing sent is kept (R24, R26, R34, R72, R98, R126, R141, R144, R179). That the
milliseconds of the second in progress, the serial numbers of records and the log of what was sent start at 0 and empty, and that the
ports choose within the restart, and that the reset input keeps its level, are the model's choices (log entries 4, 10, 44 and 53). -/
def Obligations.SupplyLoadsTheNewerBank : Prop :=
  ∀ (s : State) (second : Bool) (b : Bank),
    (if second then s.part.lineMap.bank1 else s.part.lineMap.bank0) = some b →
    (∀ c, (if second then s.part.lineMap.bank0 else s.part.lineMap.bank1) = some c → c.count < b.count) →
    ∃ t, exec .supplyApplied s = .next t ∧ t.pending = s.pending ∧
      t.part.power = { supplied := true, resetInput := s.part.power.resetInput } ∧
      t.part.lineMap =
        { working := b.map, committed := b.map, commitCount := b.count, checksum := b.map.checksum b.count,
          storedCount := b.count, bank0 := s.part.lineMap.bank0, bank1 := s.part.lineMap.bank1, current := some second } ∧
      t.part.link =
        { mode := if b.count = 0 then .setup else .tracking, rx := [], buffer := [], notices := [], overflow := 0,
          badFrames := 0, fullBuffers := 0, restartPending := false } ∧
      t.part.clocks = { tick := 0, secs := 0, set := false, sub := 0 } ∧
      t.part.run = { pigs := [], reservations := [], nextSeq := 0 } ∧
      t.part.records = { active := [], completed := [], cursor := .closed, nextSerial := 0 } ∧
      t.part.out = { replies := [], lines := [] } ∧
      t.part.cmds.cmds = [] ∧ t.part.cmds.held = [] ∧ Table.keys t.part.cmds.valves = Table.keys b.map.valves ∧
      (∀ e ∈ t.part.cmds.valves, e.2 = { position := none, state := none, time := none }) ∧
      Table.keys t.part.traps = Table.keys b.map.traps ∧
      (∀ e ∈ t.part.traps, e.2 =
        { state := .empty, step := none, abort := false, holding := none, target := none, launched := none, cmds := [], eqSeen := false,
          hold := .none, deadline := none, lastFault := none, result := none, barrel := none, suppressed := none }) ∧
      Table.keys t.part.meters.meters = Table.keys b.map.meters ∧
      (∀ e ∈ t.part.meters.meters, e.2 =
        { health := .unbaselined, lastCount := none, plausible := 0, residue := 0, totaliser := 0, counts := 0, stamp := none }) ∧
      Table.keys t.part.meters.sections = Table.keys b.map.sections ∧
      (∀ e ∈ t.part.meters.sections, e.2 =
        { driver := none, meteredSince := false, lastCredit := 0, lastInterval := 0, held := 0 }) ∧
      Table.keys t.part.attr.stations = Table.keys b.map.stations ∧
      (∀ e ∈ t.part.attr.stations, e.2 =
        { baseline := none, lastPassage := none, doubles := 0, recovery := false, unobserved := [], expected := [] }) ∧
      t.part.attr.receivers = (b.map.traps.filter fun e => e.2.role == .receiver).map (fun e => (e.1, [])) ∧
      t.part.attr.running = b.map.sections.map (fun e => (e.1, 0)) ∧
      (∀ i, t.part.port i =
        PortRec.afresh (if s.part.power.resetInput = .held then [] else (b.map.rosters.get i).stations) none) ∧
      Table.keys t.part.ports.stations = Table.keys b.map.stations ∧
      (∀ e ∈ t.part.ports.stations, e.2 =
        { live := if (b.map.claims e.1).isEmpty then .silent else .unknown, lastGood := none, declaredSilent := none })

/-- The reset input (R179): asserting it stops nothing yet; held for 50 ms it stops the part; released earlier it has no effect, and
released after that it restarts a part under supply as the application of supply does. Supply applied while the input is held leaves the
part stopped until the release. That the clocks stand still across the 50 ms, and that the input's level and its 50 ms are followed with
or without supply, are the model's choices (log entries 13 and 53). -/
def Obligations.ResetInputActsWhenHeld : Prop :=
  ∀ s : State,
    let input := fun (r : ResetInput) => s.become { s.part with power := { s.part.power with resetInput := r } }
    (s.part.power.resetInput = .released → exec .resetAsserted s = .next (input .asserted)) ∧
    (s.part.power.resetInput = .asserted →
      exec .resetHoldExpiry s = .next (input .held) ∧ exec .resetReleased s = .next (input .released)) ∧
    (s.part.power.resetInput = .held →
      s.part.running = false ∧
      (s.part.power.supplied = true → exec .resetReleased s = exec .supplyApplied (input .released)) ∧
      (s.part.power.supplied = false → exec .resetReleased s = .next (input .released))) ∧
    (∃ t, exec .supplyApplied s = .next t ∧ t.part.power = { supplied := true, resetInput := s.part.power.resetInput } ∧
      (t.part.running = true ↔ s.part.power.resetInput ≠ .held))

/-- While the part is without supply or held stopped, no command but the supply's and the reset input's changes it; the assertion of the
input and its 50 ms change nothing of a part held stopped, and nothing but the input of one without supply (R179). For a part without
supply that is the model's choice (log entries 8 and 53). -/
def Obligations.StoppedPartTakesNothing : Prop :=
  ∀ (c : Instr) (s : State), s.part.running = false →
    (c.reachesStopped = false → exec c s = .next s) ∧
    (c = .resetAsserted ∨ c = .resetHoldExpiry →
      (s.part.power.resetInput = .held → exec c s = .next s) ∧
      ∃ r, exec c s = .next (s.become { s.part with power := { s.part.power with resetInput := r } }))

/-- LOSS_OF_SUPPLY (R24): the part is off with both banks as they were, and the supply's return finds what it would have found had it
been applied at once; a write in progress in SETUP to the second bank leaves that bank failing its check and the first as it was. When a write
can have been in progress, what the part shows while it is off, and that the reset input keeps its level, are the model's choices (log
entries 7, 8 and 53). -/
def Obligations.SupplyLossKeepsTheBanks : Prop :=
  ∀ s : State, s.part.power.supplied = true →
    (∃ t, exec (.lossOfSupply false) s = .next t ∧ t.part.power.supplied = false ∧ t.part.running = false ∧
      t.part.power.resetInput = s.part.power.resetInput ∧
      t.part.lineMap.bank0 = s.part.lineMap.bank0 ∧ t.part.lineMap.bank1 = s.part.lineMap.bank1 ∧
      exec .supplyApplied t = exec .supplyApplied s) ∧
    (s.part.link.mode = .setup → s.part.cmds.cmds = [] → s.part.lineMap.working.check = none →
      s.part.lineMap.current = some false →
      ∃ t, exec (.lossOfSupply true) s = .next t ∧ t.part.power.supplied = false ∧
        t.part.lineMap.bank0 = s.part.lineMap.bank0 ∧ t.part.lineMap.bank1 = none)

/-! ## The supervisor link (chapter 10) -/

/-- The bytes of a frame with a body of at most 512 bytes, received with no frame in progress, put exactly that frame at the newest
end of the input buffer, or, when it holds 4, add 1 to the full-buffer count (R168, R169, R182). -/
def Obligations.FrameReceivedWhole : Prop :=
  ∀ (kind tag : Byte) (body : List Byte) (s : State),
    body.length ≤ 512 → s.part.running = true → s.part.link.rx = [] →
    exec (.supervisorFrame (Frame.bytes { kind, tag, body })) s = .next (s.become ({ s.part with link :=
          if s.part.link.buffer.length < 4 then
            { s.part.link with buffer := s.part.link.buffer ++ [Frame.mk kind tag body] }
          else { s.part.link with fullBuffers := min (s.part.link.fullBuffers + 1) 65535 } }))

/-- How the bytes on the supervisor line fall into commands makes no difference (R168). -/
def Obligations.ReceptionIgnoresTheSplit : Prop :=
  ∀ (a b : List Byte) (s : State), s.part.running = true →
    ∃ t, exec (.supervisorFrame a) s = .next t ∧ exec (.supervisorFrame b) t = exec (.supervisorFrame (a ++ b)) s

/-- INTER_BYTE_TIMEOUT abandons the frame in progress: the bad-frame count rises by 1, saturating, and with no other start byte among
its bytes none of them is kept; with no frame in progress nothing changes (R168). That the clocks stand still across the 5 ms is the
model's choice (log entry 13). -/
def Obligations.ByteTimeoutAbandonsTheFrame : Prop :=
  ∀ s : State, s.part.running = true →
    (s.part.link.rx = [] → exec .interByteTimeout s = .next s) ∧
    (∀ (b : Byte) (rest : List Byte), s.part.link.rx = b :: rest → (0xA5 : Byte) ∉ rest →
      exec .interByteTimeout s = .next (s.become ({ s.part with link :=
            { s.part.link with rx := [], badFrames := min (s.part.link.badFrames + 1) 65535 } })))

/-- A request is taken in its turn alone: while another frame stands at the oldest end of the buffer, or a WARM restart is still to be
performed, it changes nothing (R170, R180). That a request row ahead of its turn does nothing is the model's choice (log entry 3). -/
def Obligations.RequestWaitsItsTurn : Prop :=
  ∀ (c : Instr) (f : Frame) (s : State), c.frame = some f →
    (s.part.link.restartPending = true ∨ ∃ g rest, s.part.link.buffer = g :: rest ∧ g ≠ f) → exec c s = .next s

/-- The link's own refusals in their order: UNKNOWN REQUEST for a kind that names none, BAD LENGTH for a length that the request does
not allow, MODE for a request not open in the present mode; each changes nothing but that the frame is taken and answered (R170, R178,
R182; a NORMAL VALVE in SETUP is in ValveIsTestedAndPlaced). That a MAP WRITE of the roster kind, or of an unknown one, needs at least 5
bytes is the model's reading (log entry 28). -/
def Obligations.LinkRefusals : Prop :=
  ∀ (c : Instr) (f : Frame) (l : Link) (s : State), c.frame = some f → s.part.turnOf f l →
    (c.unknown = true → requestKinds.contains f.kind.toNat = false →
      exec c s = .next (s.become (s.part.onlyReplies l f .unknownRequest []))) ∧
    (c.unknown = false → c.lengthOk = false →
      exec c s = .next (s.become (s.part.onlyReplies l f .badLength []))) ∧
    (c.unknown = false → c.lengthOk = true → c.openIn s.part.link.mode = false →
      exec c s = .next (s.become (s.part.onlyReplies l f .mode [])))

/-- IDENT reports the part, its clocks and its counts, and SET CLOCK sets the seconds clock to the value sent, marks it set, leaves the
internal tick alone and answers the value before (R174, R175). That the milliseconds of the second in progress stay is the model's
choice (log entry 10); the identity's bytes are its reading (log entry 16); the revision's numbers are free (log entry 15). -/
def Obligations.IdentAndSetClock : Prop :=
  ∀ (tag b0 b1 b2 b3 : Byte) (l : Link) (s : State),
    let f := requestFrame 0x02 tag [b0, b1, b2, b3]
    (s.part.turnOf (requestFrame 0x01 tag []) l →
      exec (.ident tag []) s = .next (s.become (s.part.onlyReplies l (requestFrame 0x01 tag []) .ok
        [.val 7 (leNat [0x50, 0x52, 0x43, 0x2D, 0x34, 0x31, 0x36]), .val 1 Config.firmwareMajor, .val 1 Config.firmwareMinor,
         .val 1 s.part.link.mode.code, .val 4 s.part.clocks.secs.toNat, .val 1 s.part.clocks.set.toNat,
         .val 4 s.part.clocks.tick.toNat, .val 4 s.part.link.badFrames, .val 4 s.part.link.fullBuffers,
         .val 4 s.part.link.notices.length, .val 4 s.part.link.overflow]))) ∧
    (s.part.turnOf f l →
      exec (.setClock tag [b0, b1, b2, b3]) s = .next (s.become
        ({ s.part with clocks := { s.part.clocks with secs := b3 ++ b2 ++ b1 ++ b0, set := true } }.onlyReplies l f .ok
          [.val 4 s.part.clocks.secs.toNat, .val 1 s.part.clocks.set.toNat])))

/-- FETCH NOTICES, in every mode: the 8 oldest notices leave the queue and are returned with the number left and the overflow count, which
then is 0; the alert output is low exactly when none is left; a body that is not empty is a BAD LENGTH (R173). -/
def Obligations.FetchNoticesReturnsTheOldest : Prop :=
  ∀ (tag : Byte) (body : List Byte) (l : Link) (s : State), s.part.turnOf (requestFrame 0x03 tag body) l →
    (body = [] →
      ∃ t, exec (.fetchNotices tag body) s = .next t ∧
        t = (s.become ({ s.part with
            link := { l with notices := s.part.link.notices.drop 8, overflow := 0 }
            out := { s.part.out with replies := s.part.out.replies ++
              [replyTo (requestFrame 0x03 tag body) .ok
                ([.val 1 (min 8 s.part.link.notices.length), .val 1 (s.part.link.notices.length - 8), .val 2 s.part.link.overflow]
                  ++ (s.part.link.notices.take 8).flatMap Notice.fields)] } })) ∧
        (t.part.alertHigh = true ↔ 8 < s.part.link.notices.length)) ∧
    (body ≠ [] → exec (.fetchNotices tag body) s = .next (s.become (s.part.onlyReplies l (requestFrame 0x03 tag body) .badLength [])))

/-- SET MODE by the table of events and its two guards (R176, R177). That the three counts of NOT EMPTY take 4 bytes each is the model's
reading (log entry 16). -/
def Obligations.SetModeFollowsTheTable : Prop :=
  ∀ (tag code : Byte) (l : Link) (s : State), s.part.turnOf (requestFrame 0x04 tag [code]) l →
    let f := requestFrame 0x04 tag [code]
    let refused := fun (c : ReplyCode) (fs : List Field) =>
      exec (.setMode tag [code]) s = .next (s.become (s.part.onlyReplies l f c fs))
    let turned := fun (m : Mode) =>
      exec (.setMode tag [code]) s = .next (s.become (s.part.onlyReplies { l with mode := m } f .ok [.val 1 m.code]))
    (code.toNat = 0 ∨ 3 < code.toNat → refused .range []) ∧
    (code = 1 → s.part.link.mode = .setup → turned .setup) ∧
    (code = 2 → s.part.link.mode = .setup →
      if s.part.lineMap.commitCount ≠ 0 ∧ s.part.lineMap.working = s.part.lineMap.committed ∧
          s.part.lineMap.commitCount = s.part.lineMap.storedCount then turned .tracking
      else refused .uncommitted []) ∧
    (code = 3 → s.part.link.mode = .setup → refused .mode []) ∧
    (code = 1 → s.part.link.mode = .tracking →
      if s.part.run.pigs = [] ∧ s.part.run.reservations = [] ∧ (∀ e ∈ s.part.traps, e.2.state = .empty) ∧
          s.part.cmds.cmds = [] ∧ s.part.cmds.held = [] then turned .setup
      else refused .notEmpty
        [.val 4 s.part.run.pigs.length, .val 4 (s.part.traps.filter fun e => e.2.state != .empty).length,
         .val 4 s.part.cmds.cmds.length]) ∧
    (code = 2 → s.part.link.mode = .tracking → turned .tracking) ∧
    (code = 3 → s.part.link.mode = .tracking → turned .frozen) ∧
    (code = 3 → s.part.link.mode = .frozen → turned .frozen) ∧
    (code = 1 ∨ code = 2 → s.part.link.mode = .frozen → refused .mode [])

/-- RESTART, in every mode, is answered OK and the WARM restart is to follow; WARM_RESTART, with no identity twice in the run
table, then keeps the map, the positions, the meters' counts and the held volumes, the lists, the baselines, the holdings, the records,
the clocks and the notices queued, suspends the active sequences, empties the command table, the queues and the buffer, closes the
cursor, cuts off what the ports were transmitting, and leaves every port afresh with its first choice made; a station that was SILENT has
left it (R33, R86, R141, R144, R145, R180). The record of the frames cut off, the order of the blocks, the widths of the notice's counts
and the first choice within the restart are the model's choices (log entries 4, 16, 23 and 44). -/
def Obligations.RestartThenWarmRestart : Prop :=
  (∀ (tag : Byte) (l : Link) (s : State), s.part.turnOf (requestFrame 0x05 tag []) l →
    exec (.restart tag []) s = .next (s.become (s.part.onlyReplies { l with restartPending := true } (requestFrame 0x05 tag []) .ok []))) ∧
  (∀ s : State, s.part.running = true → s.part.link.restartPending = true → (s.part.run.pigs.map (·.id)).Nodup →
    ∃ t, exec .warmRestart s = .next t ∧ t.pending = s.pending ∧
      t.part.power = s.part.power ∧ t.part.clocks = s.part.clocks ∧ t.part.lineMap = s.part.lineMap ∧
      t.part.out = { replies := s.part.out.replies, lines := s.part.out.lines ++ s.part.cutFrames } ∧
      t.part.records = { s.part.records with cursor := .closed } ∧
      t.part.cmds = { s.part.cmds with cmds := [], held := [] } ∧
      t.part.link.mode = s.part.link.mode ∧ t.part.link.rx = [] ∧ t.part.link.buffer = [] ∧
      t.part.link.restartPending = false ∧ t.part.link.badFrames = s.part.link.badFrames ∧
      t.part.link.fullBuffers = s.part.link.fullBuffers ∧
      t.part.run.reservations = s.part.run.reservations ∧
      t.part.run.pigs.map Pig.tracked = s.part.run.pigs.map Pig.tracked ∧
      Table.keys t.part.traps = Table.keys s.part.traps ∧
      (∀ n r, Table.get s.part.traps n = some r →
        ∃ r', Table.get t.part.traps n = some r' ∧ r'.state = (if r.state.active then .suspended else r.state) ∧
          r'.step = r.step ∧ r'.holding = r.holding ∧ r'.target = r.target ∧ r'.deadline = none ∧ r'.hold = .none ∧
          r'.eqSeen = false ∧ r'.barrel = r.barrel ∧ ∀ c ∈ r'.cmds, c.cond ≠ .held ∧ c.cond ≠ .placed) ∧
      (∀ i, t.part.port i = PortRec.afresh (s.part.rosterOf i).stations (s.part.port i).lastFailure) ∧
      t.part.attr.receivers = s.part.attr.receivers ∧ t.part.attr.running = s.part.attr.running ∧
      (∀ x a, Table.get s.part.attr.stations x = some a →
        Table.get t.part.attr.stations x =
          some { a with recovery := a.recovery || (decide (x ∈ s.part.map.rosterStations) && s.part.isSilent x) }) ∧
      (∀ n r, Table.get s.part.meters.meters n = some r →
        ∃ r', Table.get t.part.meters.meters n = some r' ∧ r'.lastCount = r.lastCount ∧ r'.residue = r.residue ∧
          r'.totaliser = r.totaliser ∧ r'.counts = r.counts ∧ r'.stamp = r.stamp) ∧
      (∀ k r, Table.get s.part.meters.sections k = some r →
        ∃ r', Table.get t.part.meters.sections k = some r' ∧ r'.lastCredit = r.lastCredit ∧ r'.lastInterval = r.lastInterval ∧
          r'.held = r.held) ∧
      s.part.link.notices <+: t.part.link.notices ∧
      (∀ x ∈ s.part.map.rosterStations, Table.has s.part.ports.stations x = true → t.part.live x = .unknown) ∧
      (s.part.link.overflow < 65535 → t.part.link.overflow = s.part.link.overflow → ∃ n,
        t.part.link.notices.getLast? = some n ∧ n.kind = .restarted ∧
          n.detail = [.val 1 s.part.link.mode.code,
            .val 4 (s.part.traps.filter fun e => e.2.state.active).length, .val 4 s.part.cmds.cmds.length,
            .val 4 s.part.cmds.held.length]))

/-! ## The line map (chapter 1, R142) -/

/-- MAP WRITE in SETUP. A station: every field given is stored; with the chainage alone, an absent station takes the defaults and a
present one keeps its other fields; without its chainage an absent station, and a chainage out of range, are refused RANGE. The seven
other kinds with every field given: a segment, a section, a meter, a trap, a valve, an actuator table and the tuning record are stored
as sent, a throttle position clamped into 10..90 and a stroke deadline into 10..900, and are refused RANGE when the identity or a field
is out of range; a roster is refused RANGE. No other record changes, and the reply carries the record as it now stands (R2 to R8, R10).
The tables held before an actuator table is written have 16 entries each, as every step keeps them (SlipsStayInRange).
That the reply begins with the identity, and that a roster, whatever the length of its body, is refused RANGE rather than BAD LENGTH, are
the model's reading (log entries 16 and 28); that a counter width is the number of bits itself is its choice (log entry 55). -/
def Obligations.MapWriteStoresAStation : Prop :=
  (∀ (tag n : Byte) (c guardVol rearm : Nat) (d : Detector) (b : Bool) (l : Link) (s : State),
    1 ≤ n.toNat → n.toNat ≤ 64 → c < 4294967296 → guardVol ≤ 10000000 → rearm ≤ 1000000 → s.part.link.mode = .setup →
    let key : List Byte := [1, n, 0]
    let whole := key ++ [0x1F, 0] ++ leBytes 4 c ++ [BitVec.ofNat 8 d.code] ++ leBytes 4 guardVol ++ leBytes 4 rearm ++
      [if b then 1 else 0]
    let place := key ++ [1, 0] ++ leBytes 4 c
    let bare := key ++ [0, 0]
    let old := Table.get s.part.lineMap.working.stations n.toNat
    let wrote := fun (body : List Byte) (r : Station) =>
      if c ≤ 1500000 then
        exec (.mapWrite tag body) s = .next (s.become
          ((s.part.edit { s.part.lineMap.working with stations := Table.put s.part.lineMap.working.stations n.toNat r }).onlyReplies
            l (requestFrame 0x10 tag body) .ok (.val 2 n.toNat :: r.fields)))
      else exec (.mapWrite tag body) s = .next (s.become (s.part.onlyReplies l (requestFrame 0x10 tag body) .range []))
    (s.part.turnOf (requestFrame 0x10 tag whole) l →
      wrote whole { chainage := c, detector := d, guardVol := guardVol, rearm := rearm, boundary := b }) ∧
    (s.part.turnOf (requestFrame 0x10 tag place) l → ∀ r, old = some r → wrote place { r with chainage := c }) ∧
    (s.part.turnOf (requestFrame 0x10 tag place) l → old = none →
      wrote place { chainage := c, detector := .none, guardVol := 20000, rearm := 500, boundary := false }) ∧
    (s.part.turnOf (requestFrame 0x10 tag bare) l → old = none →
      exec (.mapWrite tag bare) s = .next (s.become (s.part.onlyReplies l (requestFrame 0x10 tag bare) .range [])))) ∧
  (∀ (tag b0 b1 : Byte) (l : Link) (s : State), s.part.link.mode = .setup →
    let key := b0.toNat + 256 * b1.toNat
    let w := s.part.lineMap.working
    let request := fun (kind : Nat) (mask : Nat) (bytes : List Byte) => [BitVec.ofNat 8 kind, b0, b1] ++ leBytes 2 mask ++ bytes
    let stores := fun (body : List Byte) (m : MapCopy) (fs : List Field) =>
      s.part.turnOf (requestFrame 0x10 tag body) l →
        exec (.mapWrite tag body) s = .next (s.become
          ((s.part.edit m).onlyReplies l (requestFrame 0x10 tag body) .ok (.val 2 key :: fs)))
    let refuses := fun (body : List Byte) =>
      s.part.turnOf (requestFrame 0x10 tag body) l →
        exec (.mapWrite tag body) s = .next (s.become (s.part.onlyReplies l (requestFrame 0x10 tag body) .range []))
    let meterNo := fun (x : Nat) => 1 ≤ x ∧ x ≤ 32
    (∀ start length fill : Nat, start < 4294967296 → length < 4294967296 → fill < 4294967296 →
      let body := request 0 7 (leBytes 4 start ++ leBytes 4 length ++ leBytes 4 fill)
      if key ≤ 511 ∧ start ≤ 1500000 ∧ 1 ≤ length ∧ length ≤ 1500000 then
        stores body { w with segments := Table.put w.segments key { start := start, length := length, fill := fill } }
          [.val 4 start, .val 4 length, .val 4 fill]
      else refuses body) ∧
    (∀ primary alternate : Byte,
      let body := request 2 3 [primary, alternate]
      if key ≤ 15 ∧ meterNo primary.toNat ∧ (alternate = 255 ∨ meterNo alternate.toNat) then
        let other := if alternate = 255 then none else some alternate.toNat
        stores body { w with sections := Table.put w.sections key { primary := primary.toNat, alternate := other } }
          [.val 1 primary.toNat, .opt 1 other]
      else refuses body) ∧
    (∀ (station width : Byte) (weight : Nat), weight < 4294967296 →
      let body := request 3 7 ([station, width] ++ leBytes 4 weight)
      if meterNo key ∧ 1 ≤ station.toNat ∧ station.toNat ≤ 64 ∧ (width = 12 ∨ width = 16 ∨ width = 24) ∧ 1 ≤ weight ∧
          weight ≤ 1000000 then
        stores body
          { w with meters := Table.put w.meters key { station := station.toNat, width := width.toNat, weight := weight } }
          [.val 1 station.toNat, .val 1 width.toNat, .val 4 weight]
      else refuses body) ∧
    (∀ (station role pair mainline barrel flow equalise throttle autoArm : Byte) (chainage eq drive arm lead : Nat),
      chainage < 4294967296 → eq < 65536 → drive < 65536 → arm < 65536 → lead < 4294967296 →
      let body := request 4 16383
        ([station, role] ++ leBytes 4 chainage ++ [pair, mainline, barrel, flow, equalise, throttle] ++ leBytes 2 eq ++
          leBytes 2 drive ++ leBytes 2 arm ++ leBytes 4 lead ++ [autoArm])
      let slotNo := fun (x : Byte) => 1 ≤ x.toNat ∧ x.toNat ≤ 6
      if 1 ≤ key ∧ key ≤ 16 ∧ 1 ≤ station.toNat ∧ station.toNat ≤ 64 ∧ role.toNat ≤ 1 ∧ chainage ≤ 1500000 ∧
          (pair = 255 ∨ (1 ≤ pair.toNat ∧ pair.toNat ≤ 16)) ∧ slotNo mainline ∧ slotNo barrel ∧ slotNo flow ∧ slotNo equalise ∧
          10 ≤ eq ∧ eq ≤ 3600 ∧ 10 ≤ drive ∧ drive ≤ 7200 ∧ arm ≤ 3600 ∧ lead ≤ 50000000 ∧ autoArm.toNat ≤ 1 then
        let r : Trap :=
          { station := station.toNat, role := if role = 0 then .launcher else .receiver, chainage := chainage
            pair := if pair = 255 then none else some pair.toNat
            mainline := mainline.toNat, barrel := barrel.toNat, flow := flow.toNat, equalise := equalise.toNat
            throttle := max 10 (min throttle.toNat 90), equaliseTimeout := eq, driveTimeout := drive, armTime := arm
            minLead := lead, autoArm := decide (autoArm = 1) }
        stores body { w with traps := Table.put w.traps key r }
          [.val 1 r.station, .val 1 role.toNat, .val 4 chainage, .opt 1 r.pair, .val 1 r.mainline, .val 1 r.barrel, .val 1 r.flow,
           .val 1 r.equalise, .val 1 r.throttle, .val 2 eq, .val 2 drive, .val 2 arm, .val 4 lead, .val 1 autoArm.toNat]
      else refuses body) ∧
    (∀ (role actuator : Byte) (stroke : Nat), stroke < 65536 →
      let body := request 5 7 ([role, actuator] ++ leBytes 2 stroke)
      (∀ (c : ValveRole) (i : Fin 4), role.toNat = c.code → actuator.toNat = i.val →
        1 ≤ b0.toNat → b0.toNat ≤ 64 → 1 ≤ b1.toNat → b1.toNat ≤ 6 →
        let r : Valve := { role := c, actuator := i, stroke := max 10 (min stroke 900) }
        stores body { w with valves := Table.put w.valves (b0.toNat * 256 + b1.toNat) r }
          [.val 1 c.code, .val 1 i.val, .val 2 r.stroke]) ∧
      (3 < role.toNat ∨ 3 < actuator.toNat ∨ b0.toNat = 0 ∨ 64 < b0.toNat ∨ b1.toNat = 0 ∨ 6 < b1.toNat → refuses body)) ∧
    (∀ entries : List Byte, entries.length = 16 →
      let body := request 6 65535 entries
      (∀ i : Fin 4, key = i.val → (∀ x ∈ entries, x.toNat ≤ 100) →
        (∀ j, (w.actuators.get j).length = 16) →
        stores body { w with actuators := w.actuators.set i (entries.map (·.toNat)) } (entries.map fun x => .val 1 x.toNat)) ∧
      (3 < key ∨ (∃ x ∈ entries, 100 < x.toNat) → refuses body)) ∧
    (∀ a b c d e f g h i j : Nat, a < 4294967296 → b < 4294967296 → c < 4294967296 → d < 4294967296 → e < 4294967296 →
      f < 4294967296 → g < 4294967296 → h < 4294967296 → i < 4294967296 → j < 4294967296 →
      let body := request 7 1023 ([a, b, c, d, e, f, g, h, i, j].flatMap (leBytes 4))
      if key = 0 then
        stores body
          { w with tuning :=
            { smin := a, u0 := b, q := c, umax := d, ks := e, fmin := f, slipScraper := g, slipBrush := h, slipCup := i,
              slipFoam := j } }
          ([a, b, c, d, e, f, g, h, i, j].map (Field.val 4))
      else refuses body) ∧
    (∀ (mask : Nat) (bytes : List Byte), mask < 65536 → refuses (request 8 mask bytes)))

/-- MAP CLEAR and MAP DISCARD (R11): in SETUP, clearing a record that is present removes it, or sets it to its defaults where it cannot
be absent, and leaves every other record as it was; an absent one is NO SUCH; ALL gives the empty map; a discard gives the committed
copy; in the other modes both are refused MODE. That ALL is taken with any identity bytes is the model's reading (log entry 28). -/
def Obligations.MapClearAndDiscard : Prop :=
  ∀ (tag b0 b1 : Byte) (k : RecordKind) (l : Link) (s : State),
    let one : List Byte := [BitVec.ofNat 8 k.code, b0, b1]
    let every : List Byte := [9, b0, b1]
    let key := k.key b0 b1
    let w := s.part.lineMap.working
    let turn := fun (kind : Nat) (body : List Byte) => s.part.turnOf (requestFrame kind tag body) l
    let clears := fun (body : List Byte) (m : MapCopy) =>
      exec (.mapClear tag body) s = .next (s.become ((s.part.edit m).onlyReplies l (requestFrame 0x11 tag body) .ok []))
    (s.part.link.mode = .setup →
      (turn 0x11 one → w.recordFields k key = none →
        exec (.mapClear tag one) s = .next (s.become (s.part.onlyReplies l (requestFrame 0x11 tag one) .noSuch []))) ∧
      (turn 0x11 one → w.recordFields k key ≠ none →
        ∃ m : MapCopy, clears one m ∧ m.recordFields k key = emptyMap.recordFields k key ∧
          ∀ k' key', ¬(k' = k ∧ key' = key) → m.recordFields k' key' = w.recordFields k' key') ∧
      (turn 0x11 every → clears every emptyMap) ∧
      (turn 0x12 [] →
        exec (.mapDiscard tag []) s =
          .next (s.become ((s.part.edit s.part.lineMap.committed).onlyReplies l (requestFrame 0x12 tag []) .ok [])))) ∧
    (s.part.link.mode ≠ .setup →
      (turn 0x11 one →
        exec (.mapClear tag one) s = .next (s.become (s.part.onlyReplies l (requestFrame 0x11 tag one) .mode []))) ∧
      (turn 0x11 every →
        exec (.mapClear tag every) s = .next (s.become (s.part.onlyReplies l (requestFrame 0x11 tag every) .mode []))) ∧
      (turn 0x12 [] →
        exec (.mapDiscard tag []) s = .next (s.become (s.part.onlyReplies l (requestFrame 0x12 tag []) .mode []))))

/-- MAP READ of either copy: the record named, or with NEXT the lowest-numbered one at or above it, with what the commit computed for
it when it stands in the committed copy; NO SUCH when there is none (R12). That the reply begins with the identity, and that an identity
outside its kind's range is NO SUCH and not RANGE, are the model's reading (log entries 16 and 28). -/
def Obligations.MapReadReturnsTheRecord : Prop :=
  ∀ (tag b0 b1 : Byte) (committed next : Bool) (k : RecordKind) (l : Link) (s : State),
    let body : List Byte := [if committed then 1 else 0, BitVec.ofNat 8 k.code, b0, b1, if next then 1 else 0]
    let m := if committed then s.part.lineMap.committed else s.part.lineMap.working
    let key := k.key b0 b1
    let answers := fun (code : ReplyCode) (fs : List Field) =>
      exec (.mapRead tag body) s = .next (s.become (s.part.onlyReplies l (requestFrame 0x14 tag body) code fs))
    let returns := fun (x : Nat) (fs : List Field) =>
      answers .ok (k.identity x :: (fs ++ if committed then m.computedFields k x else []))
    s.part.turnOf (requestFrame 0x14 tag body) l → (m.keysOf k).Pairwise (· < ·) →
      (next = false →
        (m.recordFields k key = none → answers .noSuch []) ∧ (∀ fs, m.recordFields k key = some fs → returns key fs)) ∧
      (next = true →
        ((∀ x, key ≤ x → m.recordFields k x = none) → answers .noSuch []) ∧
        (∀ x fs, key ≤ x → m.recordFields k x = some fs → (∀ y, key ≤ y → y < x → m.recordFields k y = none) → returns x fs))

/-- MAP IDENT answers the counts, the checksum and whether the copies differ (R23). MAP LOCATE on a line whose segments tile it: a
chainage or a coordinate lies in the one segment that holds it, its end taken by the last segment alone, and comes back as R18 and R19
turn it, with the neighbours R25 lists; a place beyond the end is RANGE, and before the first commit every place is UNCOMMITTED. That
UNCOMMITTED comes before RANGE, and the 2 bytes of the segment's index, are the model's reading (log entries 28 and 16). -/
def Obligations.MapIdentAndLocate : Prop :=
  ∀ (tag : Byte) (v : Nat) (l : Link) (s : State), v < 4294967296 →
    let m := s.part.lineMap.committed
    let byChainage := (0 : Byte) :: leBytes 4 v
    let byCoord := (1 : Byte) :: leBytes 4 v
    let answers := fun (body : List Byte) (code : ReplyCode) (fs : List Field) =>
      exec (.mapLocate tag body) s = .next (s.become (s.part.onlyReplies l (requestFrame 0x16 tag body) code fs))
    let around := fun (segment P : Nat) =>
      [Field.val 2 segment, .val 1 (m.sectionOf P), .opt 1 ((m.legEnd P).map Prod.fst), .opt 1 (m.stationAtOrBefore P),
       .opt 1 (m.stationAfter P), .val 1 (m.inBarrelSpan P).toNat]
    (s.part.turnOf (requestFrame 0x15 tag []) l →
      exec (.mapIdent tag []) s = .next (s.become (s.part.onlyReplies l (requestFrame 0x15 tag []) .ok
        [.val 4 s.part.lineMap.commitCount, .val 4 s.part.lineMap.checksum,
         .val 1 (if s.part.lineMap.working = s.part.lineMap.committed then 0 else 1), .val 4 s.part.lineMap.storedCount]))) ∧
    (s.part.turnOf (requestFrame 0x16 tag byChainage) l →
      (s.part.lineMap.commitCount = 0 → answers byChainage .uncommitted []) ∧
      (s.part.lineMap.commitCount ≠ 0 → checkSegments m.segments 0 0 = none →
        (m.lineEnd < v → answers byChainage .range []) ∧
        (∀ x ∈ m.segs, x.seg.start ≤ v → (v < x.seg.stop ∨ (m.segs.getLast? = some x ∧ v = m.lineEnd)) →
          answers byChainage .ok
            (.val 4 (x.vstart + (v - x.seg.start) * x.seg.fill / 1000) ::
              around x.index (x.vstart + (v - x.seg.start) * x.seg.fill / 1000))) ∧
        (v ≤ m.lineEnd → ∃ x ∈ m.segs, x.seg.start ≤ v ∧ (v < x.seg.stop ∨ (m.segs.getLast? = some x ∧ v = m.lineEnd))))) ∧
    (s.part.turnOf (requestFrame 0x16 tag byCoord) l →
      (s.part.lineMap.commitCount = 0 → answers byCoord .uncommitted []) ∧
      (s.part.lineMap.commitCount ≠ 0 → checkSegments m.segments 0 0 = none →
        (m.lineTotal < v → answers byCoord .range []) ∧
        (∀ x ∈ m.segs, x.vstart ≤ v → (v < x.vstart + x.seg.volume ∨ (m.segs.getLast? = some x ∧ v = m.lineTotal)) →
          answers byCoord .ok
            (.val 4 (min (x.seg.start + (v - x.vstart) * 1000 / x.seg.fill) x.seg.stop) :: around x.index v)) ∧
        (v ≤ m.lineTotal →
          ∃ x ∈ m.segs, x.vstart ≤ v ∧ (v < x.vstart + x.seg.volume ∨ (m.segs.getLast? = some x ∧ v = m.lineTotal)))))

/-- MAP COMMIT in SETUP: NOT EMPTY while a command is outstanding and INVALID MAP at the first failing check, neither copy changed;
otherwise the working copy is in force, stored in the bank that is not current (the first, when none is) when that bank reads back as
written, the count one higher; the meters, the sections, the baselines, the lists and the traps start afresh; no held entry is left;
each port has its frame cut off, starts afresh on its new roster and makes its first choice, its last failure kept; the valve records of
the new map are kept where there were any, the meters' masked last counts and the stations' times too; all else is as it was (R13, R17,
R24, R26, R126, R141, R143 to R145). The record of the frames cut off, that a bank read back wrong fails its check, which bank the first
commit takes, that this NOT EMPTY carries no field, the 2 bytes of the identity in INVALID MAP and the first choice within the commit are
the model's choices (log entries 4, 6, 16 and 44). -/
def Obligations.MapCommitPutsInForce : Prop :=
  ∀ (tag : Byte) (verified : Bool) (l : Link) (s : State),
    s.part.turnOf (requestFrame 0x13 tag []) l → s.part.link.mode = .setup →
    let w := s.part.lineMap.working
    let refused := fun (code : ReplyCode) (fs : List Field) =>
      exec (.mapCommit tag [] verified) s = .next (s.become (s.part.onlyReplies l (requestFrame 0x13 tag []) code fs))
    (s.part.cmds.cmds ≠ [] → refused .notEmpty []) ∧
    (s.part.cmds.cmds = [] → ∀ e, w.check = some e →
      refused .invalidMap [.val 1 e.kind.code, e.kind.identity e.key, .val 1 e.reason.code]) ∧
    (s.part.cmds.cmds = [] → w.check = none →
      ∃ t, exec (.mapCommit tag [] verified) s = .next t ∧ t.pending = s.pending ∧
        t.part.lineMap.working = w ∧ t.part.lineMap.committed = w ∧
        t.part.lineMap.commitCount = min (s.part.lineMap.commitCount + 1) 4294967295 ∧
        t.part.lineMap.checksum = crc32 w.canonical ∧
        t.part.lineMap.storedCount = (if verified then t.part.lineMap.commitCount else s.part.lineMap.storedCount) ∧
        (s.part.lineMap.current = some false → t.part.lineMap.bank0 = s.part.lineMap.bank0 ∧
          t.part.lineMap.bank1 = (if verified then some { map := w, count := t.part.lineMap.commitCount } else none) ∧
          t.part.lineMap.current = (if verified then some true else some false)) ∧
        (s.part.lineMap.current = none → t.part.lineMap.bank1 = s.part.lineMap.bank1 ∧
          t.part.lineMap.bank0 = (if verified then some { map := w, count := t.part.lineMap.commitCount } else none) ∧
          t.part.lineMap.current = (if verified then some false else none)) ∧
        (s.part.lineMap.current = some true → t.part.lineMap.bank1 = s.part.lineMap.bank1 ∧
          t.part.lineMap.bank0 = (if verified then some { map := w, count := t.part.lineMap.commitCount } else none) ∧
          t.part.lineMap.current = (if verified then some false else some true)) ∧
        Table.keys t.part.meters.meters = Table.keys w.meters ∧
        (∀ e ∈ t.part.meters.meters, e.2.health = .unbaselined ∧ e.2.plausible = 0 ∧ e.2.residue = 0 ∧ e.2.totaliser = 0 ∧
          e.2.counts = 0) ∧
        (∀ n m r, Table.get w.meters n = some m → Table.get s.part.meters.meters n = some r →
          ∃ r', Table.get t.part.meters.meters n = some r' ∧ r'.lastCount = r.lastCount.map (· % 2 ^ m.width) ∧ r'.stamp = r.stamp) ∧
        Table.keys t.part.meters.sections = Table.keys w.sections ∧
        (∀ e ∈ t.part.meters.sections, e.2 =
          { driver := none, meteredSince := false, lastCredit := 0, lastInterval := 0, held := 0 }) ∧
        Table.keys t.part.attr.stations = Table.keys w.stations ∧
        (∀ e ∈ t.part.attr.stations, e.2 =
          { baseline := none, lastPassage := none, doubles := 0, recovery := false, unobserved := [], expected := [] }) ∧
        (∀ e ∈ t.part.attr.receivers, e.2 = []) ∧ (∀ e ∈ t.part.attr.running, e.2 = 0) ∧
        Table.keys t.part.traps = Table.keys w.traps ∧
        (∀ e ∈ t.part.traps, e.2.state = .empty ∧ e.2.step = none ∧ e.2.holding = none ∧ e.2.cmds = [] ∧ e.2.lastFault = none) ∧
        t.part.cmds.cmds = [] ∧ t.part.cmds.held = [] ∧ Table.keys t.part.cmds.valves = Table.keys w.valves ∧
        (∀ v, Table.has w.valves v = true → Table.get t.part.cmds.valves v =
          some ((Table.get s.part.cmds.valves v).getD { position := none, state := none, time := none })) ∧
        (∀ i, t.part.port i = PortRec.afresh (w.rosters.get i).stations (s.part.port i).lastFailure) ∧
        Table.keys t.part.ports.stations = Table.keys w.stations ∧
        (∀ x, Table.has w.stations x = true → ∃ y, Table.get t.part.ports.stations x = some y ∧
          y.live = (if (w.claims x).isEmpty then .silent else .unknown) ∧
          y.lastGood = (Table.get s.part.ports.stations x).bind (·.lastGood) ∧
          y.declaredSilent = (Table.get s.part.ports.stations x).bind (·.declaredSilent)) ∧
        t.part.power = s.part.power ∧ t.part.clocks = s.part.clocks ∧ t.part.link = l ∧ t.part.run = s.part.run ∧
        t.part.records = s.part.records ∧ t.part.out.lines = s.part.out.lines ++ s.part.cutFrames ∧
        t.part.repliedSince s.part (requestFrame 0x13 tag []) .ok
          [.val 4 t.part.lineMap.commitCount, .val 4 t.part.lineMap.checksum])

/-- On a line whose segments pass their check every chainage up to the line end has a coordinate; a greater chainage has a strictly
greater one; and a chainage turned into a coordinate and back comes out as itself or one metre short (R18, R19). -/
def Obligations.ChainageRoundTrip : Prop :=
  ∀ (m : MapCopy) (c : Nat), checkSegments m.segments 0 0 = none → c ≤ m.lineEnd →
    ∃ P, m.coord c = some P ∧ P ≤ m.lineTotal ∧ (m.chainageOf P = c ∨ m.chainageOf P + 1 = c) ∧
      ∀ c', c < c' → c' ≤ m.lineEnd → ∃ P', m.coord c' = some P' ∧ P < P'

/-- ROSTER SET in SETUP with every value present and in range writes that port's roster record and no other, and answers the record;
with no value present it changes nothing; a timing value out of range is refused RANGE (R142). The reply's identity and the ignoring of
values that the mask leaves absent are the model's reading (log entries 16 and 28). -/
def Obligations.RosterSetWritesThePort : Prop :=
  ∀ (tag : Byte) (i : Fin 4) (timeout limit gap : Nat) (stations : List Byte) (l : Link) (s : State),
    s.part.link.mode = .setup → timeout < 65536 → limit < 256 → gap < 65536 → stations.length ≤ 16 →
    (∀ x ∈ stations, 1 ≤ x.toNat ∧ x.toNat ≤ 64) →
    let whole := [BitVec.ofNat 8 i.val, 0x0F] ++ leBytes 2 timeout ++ [BitVec.ofNat 8 limit] ++ leBytes 2 gap ++
      [BitVec.ofNat 8 stations.length] ++ stations
    let bare := [BitVec.ofNat 8 i.val, 0x00] ++ leBytes 2 timeout ++ [BitVec.ofNat 8 limit] ++ leBytes 2 gap ++ [(0 : Byte)]
    let r : Roster :=
      { stations := stations.map (·.toNat), replyTimeout := timeout, retryLimit := limit, pollGap := gap }
    let w := s.part.lineMap.working
    (s.part.turnOf (requestFrame 0x17 tag whole) l →
      if 100 ≤ timeout ∧ timeout ≤ 2000 ∧ limit ≤ 7 ∧ gap ≤ 1000 then
        exec (.rosterSet tag whole) s = .next (s.become
          ((s.part.edit { w with rosters := w.rosters.set i r }).onlyReplies l (requestFrame 0x17 tag whole) .ok
            (.val 2 i.val :: r.fields)))
      else exec (.rosterSet tag whole) s = .next (s.become (s.part.onlyReplies l (requestFrame 0x17 tag whole) .range []))) ∧
    (s.part.turnOf (requestFrame 0x17 tag bare) l →
      exec (.rosterSet tag bare) s = .next (s.become (s.part.onlyReplies l (requestFrame 0x17 tag bare) .ok
        (.val 2 i.val :: (w.rosters.get i).fields))))

/-! ## Meters and section volume (chapter 2) -/

/-- QUERY METER and QUERY SECTION return the record asked for, field by field; an index out of range is RANGE and one without a record
NO SUCH (R42, R43). The 1 byte of the run of plausible counts and the other widths of the two replies that the appendix does not give are
the model's reading (log entry 16). -/
def Obligations.MeterQueriesAnswer : Prop :=
  ∀ (tag n : Byte) (l : Link) (s : State),
    let fm := requestFrame 0x20 tag [n]
    let fs := requestFrame 0x21 tag [n]
    let m := s.part.lineMap.committed
    (s.part.turnOf fm l →
      let answers := fun (code : ReplyCode) (fields : List Field) =>
        exec (.queryMeter tag [n]) s = .next (s.become (s.part.onlyReplies l fm code fields))
      (n.toNat = 0 ∨ 32 < n.toNat → answers .range []) ∧
      (1 ≤ n.toNat → n.toNat ≤ 32 → Table.get s.part.meters.meters n.toNat = none → answers .noSuch []) ∧
      (∀ r, 1 ≤ n.toNat → n.toNat ≤ 32 → Table.get s.part.meters.meters n.toNat = some r →
        let naming := m.sectionNaming n.toNat
        answers .ok
          [.val 1 r.health.code, .val 1 r.plausible, .opt 4 r.lastCount, .val 4 r.residue, .val 8 r.totaliser, .val 8 r.counts,
           .pres 4 (r.stamp.map (·.toNat)), .opt 1 (naming.map (·.1)), .opt 1 (naming.map fun k => if k.2 then 0 else 1),
           .val 1 (if naming.any fun k => s.part.driver k.1 == some n.toNat then 1 else 0)])) ∧
    (s.part.turnOf fs l →
      let answers := fun (code : ReplyCode) (fields : List Field) =>
        exec (.querySection tag [n]) s = .next (s.become (s.part.onlyReplies l fs code fields))
      (15 < n.toNat → answers .range []) ∧
      (n.toNat ≤ 15 → Table.get m.sections n.toNat = none → answers .noSuch []) ∧
      (∀ c r, n.toNat ≤ 15 → Table.get m.sections n.toNat = some c → Table.get s.part.meters.sections n.toNat = some r →
        answers .ok
          [.val 1 c.primary, .val 1 (s.part.health c.primary).code, .opt 1 c.alternate,
           .opt 1 (c.alternate.map fun a => (s.part.health a).code), .opt 1 r.driver, .val 1 r.meteredSince.toNat,
           .val 4 r.lastCredit, .val 4 r.lastInterval, .val 4 r.held, .val 4 (m.sectionLow n.toNat),
           .val 4 (m.sectionHigh n.toNat)]))

/-- UNFREEZE DISCARD, taken in FROZEN and refused MODE elsewhere: every held volume is 0, the mode is TRACKING, the reply carries what
each section had held, and nothing else changes: no pig advances (R41). That the reply carries 16 volumes is the model's reading (log
entry 16). -/
def Obligations.UnfreezeDiscardDropsHeld : Prop :=
  ∀ (tag : Byte) (l : Link) (s : State),
    let f := requestFrame 0x23 tag []
    s.part.turnOf f l →
    (s.part.link.mode = .frozen →
      exec (.unfreezeDiscard tag []) s = .next (s.become
        ({ s.part with meters :=
            { s.part.meters with sections := Table.mapAll s.part.meters.sections fun _ (r : SectionRec) => { r with held := 0 } } }.onlyReplies
          { l with mode := .tracking } f .ok
          ((List.range 16).map fun k => Field.val 4 (s.part.heldOf k))))) ∧
    (s.part.link.mode ≠ .frozen → exec (.unfreezeDiscard tag []) s = .next (s.become (s.part.onlyReplies l f .mode [])))

/-- UNFREEZE CREDIT in FROZEN: the mode is TRACKING, no volume is held, the reply carries what each section had held, no meter's record
changes and no pig leaves or passes another; and when one section alone held a volume, the pigs of its range have metered it and the
others nothing (R40, R52, R53). That the reply carries 16 volumes is the model's reading (log entry 16). -/
def Obligations.UnfreezeCreditHandsOn : Prop :=
  ∀ (tag : Byte) (l : Link) (s : State),
    let f := requestFrame 0x22 tag []
    s.part.turnOf f l → s.part.link.mode = .frozen → OrderedPigs s.part.run.pigs → (∀ g ∈ s.part.run.pigs, g.M ≤ 4294967295) →
    ∃ t, exec (.unfreezeCredit tag []) s = .next t ∧ t.pending = s.pending ∧ t.part.link.mode = .tracking ∧
      (∀ k < 16, t.part.heldOf k = 0) ∧ t.part.repliedSince s.part f .ok ((List.range 16).map fun k => Field.val 4 (s.part.heldOf k)) ∧
      t.part.meters.meters = s.part.meters.meters ∧ t.part.lineMap = s.part.lineMap ∧ t.part.clocks = s.part.clocks ∧
      t.part.power = s.part.power ∧ (t.part.run.pigs.map (·.id)) = s.part.run.pigs.map (·.id) ∧
      (∀ k < 16, (∀ j < 16, j ≠ k → s.part.heldOf j = 0) →
        (t.part.run.pigs.map fun g => (g.id, g.M)) =
          s.part.run.pigs.map fun g =>
            (g.id, if s.part.map.sectionOf g.P = k then min (g.M + s.part.heldOf k) 4294967295 else g.M))

/-- A count taken of a meter, by its health: UNBASELINED takes the baseline and credits nothing; a plausible count is scaled with the
residue carried on, and the second in a row brings a SUSPECT meter back to HEALTHY; a jump above half the range credits nothing and
makes the meter SUSPECT. No other meter's record changes (R29 to R32). A change of a meter's health chooses the driver of its section
afresh, with the notices and the flags of a loss or a gain of the driver (R35, R37). The litres that a driving meter credits become the
section's delta: it goes to the running volume, and in FROZEN to the held volume, otherwise to the pigs of the section (R36, R39, R52);
those of a meter that does not drive move nothing. The section's interval is measured from the meter's stamp as it stood before the
report, for a second entry of the same meter too (R36). A report's entry for a meter of its station is such a count at the report's time; one
for a meter that the map does not have, or that another station has, is reported METER NOT IN MAP and changes no record (R28); a jump is
reported METER DISCONTINUITY with the meter, the old last count and the new one (R30). That the last credit stays within 32 bits, that the
interval is 0 for a meter that had no stamp before the report, that a second entry of a meter in a report is taken as any other, and the
widths of the notices' details are the model's choices (log entries 40, 46 and 16). -/
def Obligations.CountsAreCredited : Prop :=
  (∀ (p : Part) (before : Table MeterRec) (x n raw : Nat),
    (Table.get p.map.meters n = none ∨ (∃ m, Table.get p.map.meters n = some m ∧ m.station ≠ x) →
      Part.meterEntry before x p (n, raw) = { p with
        link := p.link.queue { kind := .meterNotInMap, time := { secs := p.clocks.secs, set := p.clocks.set }, pig := none
                               station := some x, trap := none, detail := [.val 1 n] } }) ∧
    (∀ m r, Table.get p.map.meters n = some m → m.station = x → Table.get p.meters.meters n = some r →
      Part.meterEntry before x p (n, raw) = p.takeCount n m r ((Table.get before n).bind (·.stamp)) raw p.clocks.tick)) ∧
  (∀ (p : Part) (n : Nat) (m : Meter) (r : MeterRec) (since : Option Tick) (raw : Nat) (now : Tick),
    Table.get p.meters.meters n = some r →
    let q := p.takeCount n m r since raw now
    let c := raw % 2 ^ m.width
    let after := fun (x : MeterRec) => Table.get q.meters.meters n = some x
    let base := { r with lastCount := some c, stamp := some now, plausible := 0 }
    (∀ k, k ≠ n → Table.get q.meters.meters k = Table.get p.meters.meters k) ∧
    (r.health = .unbaselined → after { base with health := .healthy }) ∧
    (∀ last, r.lastCount = some last → r.health = .healthy ∨ r.health = .suspect →
      let d := (c + 2 ^ m.width - last) % 2 ^ m.width
      let total := d * m.weight + r.residue
      let credited := { r with
        lastCount := some c, stamp := some now, residue := total % 1000, totaliser := r.totaliser + total / 1000,
        counts := r.counts + d }
      let told := p.link.queue
        { kind := .meterDiscontinuity, time := { secs := p.clocks.secs, set := p.clocks.set }, pig := none, station := some m.station
          trap := none, detail := [.val 1 n, .val 4 last, .val 4 c] }
      (2 ^ (m.width - 1) < d → after { base with health := .suspect }) ∧
      (2 ^ (m.width - 1) < d → told.notices <+: q.link.notices ∧ (r.health = .suspect → q.link = told)) ∧
      (d ≤ 2 ^ (m.width - 1) → r.health = .healthy → after credited) ∧
      (d ≤ 2 ^ (m.width - 1) → r.health = .suspect →
        after (if r.plausible = 1 then { credited with health := .healthy, plausible := 0 }
          else { credited with plausible := r.plausible + 1 })))) ∧
  (∀ (p : Part) (n k : Nat) (primary : Bool) (h : Health) (old : MeterRec) (c : Section) (r : SectionRec),
    Table.get p.meters.meters n = some old → p.map.sectionNaming n = some (k, primary) → Table.get p.map.sections k = some c →
    Table.get p.meters.sections k = some r →
    let q := p.changeHealth n h
    let now : Stamp := { secs := p.clocks.secs, set := p.clocks.set }
    let choice :=
      if q.health c.primary = .healthy then some c.primary
      else if (c.alternate.map q.health) = some .healthy then c.alternate
      else none
    let notice := fun (kind : NoticeKind) (detail : List Field) =>
      p.link.queue { kind := kind, time := now, pig := none, station := none, trap := none, detail := detail }
    let inRange := fun (f : Pig → Pig) => p.run.pigs.map fun g => if p.map.sectionOf g.P = k then f g else g
    let chosen := fun (since : Bool) => Table.get q.meters.sections k = some { r with driver := choice, meteredSince := since }
    q.health n = h ∧ (∀ j, j ≠ n → q.health j = p.health j) ∧
      (∀ x, r.driver = some x → choice = none →
        chosen r.meteredSince ∧ q.link = notice .sectionNoMeter [.val 1 k] ∧
          q.run.pigs = inRange fun g => { g with noMeter := true }) ∧
      (∀ x, r.driver = none → choice = some x → r.meteredSince = true →
        chosen true ∧ q.link = notice .sectionMeterRestored [.val 1 k, .val 1 x] ∧
          q.run.pigs = inRange fun g => { g with noMeter := false, stale := true }) ∧
      (∀ x, r.driver = none → choice = some x → r.meteredSince = false →
        chosen true ∧ q.link = p.link ∧ q.run.pigs = inRange fun g => { g with noMeter := false }) ∧
      (r.driver.isSome = choice.isSome → chosen r.meteredSince ∧ q.link = p.link ∧ q.run = p.run)) ∧
  (∀ (p : Part) (n k last raw : Nat) (primary : Bool) (m : Meter) (r : MeterRec) (since : Option Tick) (sec : SectionRec) (now : Tick),
    Table.get p.meters.meters n = some r → r.health = .healthy → r.lastCount = some last → p.map.sectionNaming n = some (k, primary) →
    Table.get p.meters.sections k = some sec →
    let d := (raw % 2 ^ m.width + 2 ^ m.width - last) % 2 ^ m.width
    let delta := min ((d * m.weight + r.residue) / 1000) 4294967295
    let q := p.takeCount n m r since raw now
    d ≤ 2 ^ (m.width - 1) →
      (sec.driver ≠ some n → q.meters.sections = p.meters.sections ∧ q.attr = p.attr ∧ q.run = p.run) ∧
      (sec.driver = some n →
        let credited := { sec with
          lastCredit := delta
          lastInterval := match since with
            | none => 0
            | some t => (now - t).toNat }
        Table.get q.attr.running k = (Table.get p.attr.running k).map (· + delta) ∧
        (p.link.mode = .frozen →
          Table.get q.meters.sections k = some { credited with held := min (sec.held + delta) 4294967295 } ∧ q.run = p.run) ∧
        (p.link.mode ≠ .frozen → OrderedPigs p.run.pigs → (∀ g ∈ p.run.pigs, g.M ≤ 4294967295) →
          Table.get q.meters.sections k = some credited ∧
          (q.run.pigs.map fun g => (g.id, g.M)) =
            p.run.pigs.map fun g => (g.id, if p.map.sectionOf g.P = k then min (g.M + delta) 4294967295 else g.M))))

/-! ## The run table and passage attribution (chapters 3 to 5) -/

/-- Over any split of a volume into deltas, with no hold on the way, a pig advances by the whole of the volume less its slip, the part of
a litre carried on in the slip residue; its metered litres take the deltas, saturating (R53). -/
def Obligations.DeltaSplitsAddUp : Prop :=
  ∀ (p : Part) (g : Pig) (ds : List Nat) (limit : Nat),
    let a := ds.sum * (10000 - g.slip) + g.rp
    let h := ds.foldl (fun x dv => treatPig p x dv limit) g
    g.rp < 10000 → g.O = 0 → g.M ≤ 4294967295 → g.P + a / 10000 ≤ limit →
      h.P = g.P + a / 10000 ∧ h.rp = a % 10000 ∧ h.O = 0 ∧ h.M = min (g.M + ds.sum) 4294967295 ∧ h.slip = g.slip

/-- From every state in which it holds, a step keeps the run table in order of P, under distinct identities and within 12 slots with its
reservations, along with what this rests on: every listed pig stands at or below its station, every launch in progress has its slot, and
a trap stands in the step that its state gives, in none when no sequence is in progress (R46 to R48, R70, R71, R98, R99). A section delta,
for its part, moves no pig backwards and none past the line total, and adds the delta to the metered litres of the pigs in the section's
range alone (R52, R55). -/
def Obligations.AdvanceKeepsOrder : Prop :=
  (∀ s t : State, s.part.RunTableSound → step s = .next t → t.part.RunTableSound) ∧
  ∀ (p : Part) (k dv : Nat), OrderedPigs p.run.pigs → (∀ g ∈ p.run.pigs, g.P ≤ p.map.lineTotal ∧ g.M ≤ 4294967295) →
    let q := p.advance k dv
    OrderedPigs q.run.pigs ∧ (∀ g ∈ q.run.pigs, g.P ≤ p.map.lineTotal) ∧
      q.run.pigs.map (·.id) = p.run.pigs.map (·.id) ∧
      ∀ (i : Nat) (a b : Pig), p.run.pigs[i]? = some a → q.run.pigs[i]? = some b →
        a.P ≤ b.P ∧ b.slip = a.slip ∧ b.M = if p.map.sectionOf a.P = k then min (a.M + dv) 4294967295 else a.M

/-- A release and a delta under one limit give the same P, O, M and residue whichever is taken first, and the pig ends at the smaller of
P + adv + O and the limit, but not below P (R59). -/
def Obligations.ReleaseAndDeltaCommute : Prop :=
  ∀ (p : Part) (g : Pig) (dv limit : Nat),
    g.rp < 10000 → g.M ≤ 4294967295 → targetOf g dv ≤ 4294967295 →
      (treatPig p (treatPig p g 0 limit) dv limit).tracked = (treatPig p g dv limit).tracked ∧
        (treatPig p (treatPig p g dv limit) 0 limit).tracked = (treatPig p g dv limit).tracked ∧
        (treatPig p g dv limit).P = max g.P (min (g.P + (dv * (10000 - g.slip) + g.rp) / 10000 + g.O) limit)

/-- A confirmation at a station at or above the pig places it there with its estimate afresh and its slip updated, raises every pig in
front to at least that place, keeps the order and moves no pig backwards (R79 to R82). What brings one about: a report's detector part
takes its counters as the new baseline, and, when they were baselined before and neither has jumped by more than 128, hands on the tag
reads and then the trips that the detector kind uses (R73 to R75); a tag read makes the entries in front of the tagged pig MISSED and
confirms it, or is a stray passage (R77); a trip too soon after the last passage counts as a double, and otherwise confirms the head of the
list when that is approaching (R76, R78); in a recovery report a pig of the unobserved list is LATE CONFIRMED, a trip handed on is tested
against the last passage volume from before the silence, and the list is emptied (R86, R87). The widths of the details, that lost reads
are reported only by a station that uses tag reads, the order within a confirmation, that recovery pending also ends at a report in
SETUP or of a station without a list, and that a jump is reported there too, are the model's reading (log entries 16, 27, 34, 43 and
54). -/
def Obligations.ConfirmationSnapsThePig : Prop :=
  (∀ (p : Part) (x : Nat) (trip tag : Byte) (codes : List Nat) (a : StationAttr) (st : Station),
    Table.get p.attr.stations x = some a → Table.get p.map.stations x = some st →
    let q := p.detectorPart x trip tag codes
    let ended := fun (z : Part) => { z with attr := { z.attr with
      stations := if a.recovery then
          Table.modify z.attr.stations x fun (b : StationAttr) => { b with recovery := false, unobserved := [] }
        else z.attr.stations } }
    let based : Part := { p with attr := { p.attr with
      stations := Table.modify p.attr.stations x fun b => { b with baseline := some (trip, tag) } } }
    let told := fun (z : Part) (kind : NoticeKind) (detail : List Field) => { z with
      link := z.link.queue { kind := kind, time := p.stamp, pig := none, station := some x, trap := none, detail := detail } }
    (p.link.mode = .setup ∨ a.baseline = none → q = ended based) ∧
    (∀ trip0 tag0, p.link.mode ≠ .setup → a.baseline = some (trip0, tag0) →
      let nt := (trip - trip0).toNat
      let ng := (tag - tag0).toNat
      let tags := (codes.drop (codes.length - ng)).filter (· != 0)
      (128 < nt ∨ 128 < ng →
        q = ended (told based .detectorDiscontinuity
          [.val 1 trip0.toNat, .val 1 trip.toNat, .val 1 tag0.toNat, .val 1 tag.toNat])) ∧
      (nt ≤ 128 → ng ≤ 128 → p.map.hasList x = false → q = ended based) ∧
      (nt ≤ 128 → ng ≤ 128 → p.map.hasList x = true →
        let lost := if codes.length < ng then told based .tagReadsLost [.val 4 (ng - codes.length)] else based
        (st.detector = .none → q = ended based) ∧
        (st.detector = .trip → q = ended (Nat.repeat (Part.takeTrip a.recovery a.lastPassage x) nt based)) ∧
        (st.detector = .tag → q = ended (tags.foldl (Part.takeTag a.recovery x) lost)) ∧
        (st.detector = .both →
          q = ended (Nat.repeat (Part.takeTrip a.recovery a.lastPassage x) (nt - tags.length)
            (tags.foldl (Part.takeTag a.recovery x) lost)))))) ∧
  (∀ (p : Part) (x code : Nat) (recovery : Bool) (before : Option Nat),
    let Vx := p.map.stationCoord x
    let volume := (Table.get p.attr.running (p.map.sectionOf Vx)).getD 0
    let passed : Part := { p with attr := { p.attr with
      stations := Table.modify p.attr.stations x fun (b : StationAttr) => { b with lastPassage := some volume } } }
    let told := fun (kind : NoticeKind) (pig : Option Nat) (detail : List Field) => { passed with
      link := p.link.queue { kind := kind, time := p.stamp, pig := pig, station := some x, trap := none, detail := detail } }
    let carries := fun (id : Nat) => ∃ g, p.pig id = some g ∧ g.tag = code
    let hits := p.unobserved x
    let late := fun (z : Part) (g : Pig) =>
      z.run = p.run ∧ z.traps = p.traps ∧ z.cmds = p.cmds ∧ z.meters = p.meters ∧
        z.attr.receivers = p.attr.receivers ∧ z.attr.running = p.attr.running ∧
        z.attr.stations = Table.modify p.attr.stations x (fun (b : StationAttr) =>
          { b with unobserved := b.unobserved.filter (· != g.id) }) ∧
        z.link = p.link.queue { kind := .passage, time := p.stamp, pig := some g.id, station := some x, trap := none
                                detail := [.val 1 PassageOutcome.lateConfirmed.code, .val 4 (p.map.chainageOf g.P), .val 2 g.slip, .val 4 0] } ∧
        z.records.active = p.records.active.map fun y => if y.id = g.id then
          y.append { kind := .lateConfirmed, point := .station x, time := p.stamp, P := some g.P, M := some g.M, slip := g.slip } else y
    (∀ (front rear : List Nat) (g : Pig), hits = front ++ g.id :: rear → p.pig g.id = some g → g.tag = code → (∀ y ∈ front, ¬carries y) →
      late (Part.takeTag true x p code) g) ∧
    (recovery = false ∨ (∀ y ∈ hits, ¬carries y) →
      ((∀ y ∈ p.expected x, ¬carries y) → Part.takeTag recovery x p code = told .strayPassage none [.val 2 code]) ∧
      (∀ (id : Nat) (rest : List Nat), p.expected x = id :: rest → carries id →
        Part.takeTag recovery x p code = passed.confirm id x .confirmedByTag) ∧
      (∀ (miss rest : List Nat) (id : Nat), p.expected x = miss ++ id :: rest → (∀ y ∈ miss, ¬carries y) → carries id →
        (p.run.pigs.map (·.id)).Nodup → Table.has p.attr.stations x = true → (p.expected x).Nodup →
        ∃ z : Part, Part.takeTag recovery x p code = z.confirm id x .confirmedByTag ∧ (∀ y ∈ miss, ∀ g, p.pig y = some g → y ∉ z.expected x) ∧
          z.run.pigs.map (·.id) = p.run.pigs.map (·.id) ∧
          ∀ y ∈ miss, ∀ g, p.pig y = some g → ∀ w ∈ p.records.active, w.id = y → w.entries.length < 48 →
            ∃ w' ∈ z.records.active, w'.id = y ∧ w.entries ++
              [{ kind := .missed, point := .station x, time := p.stamp, P := some g.P, M := some g.M, slip := g.slip }] <+: w'.entries)) ∧
    (∀ (g : Pig) (rest : List Nat), hits = g.id :: rest → p.pig g.id = some g → late (Part.takeTrip true before x p) g) ∧
    (recovery = false ∨ hits = [] →
      ∀ a st, Table.get p.attr.stations x = some a → Table.get p.map.stations x = some st →
        let driven := (p.driver (p.map.sectionOf Vx)).isSome = true
        let tested := if recovery then before else a.lastPassage
        let double := driven ∧ ∃ last, tested = some last ∧ volume - last < st.rearm
        (double → Part.takeTrip recovery before x p = { p with attr := { p.attr with
          stations := Table.modify p.attr.stations x fun (b : StationAttr) => { b with doubles := min (b.doubles + 1) 65535 } } }) ∧
        (¬double → a.expected = [] → Part.takeTrip recovery before x p = told .unexpectedTrip none []) ∧
        (∀ (g : Pig) (rest : List Nat), ¬double → a.expected = g.id :: rest → p.pig g.id = some g →
          let U := min p.tuning.umax (p.tuning.u0 + g.M * p.tuning.q / 10000)
          (Vx ≤ g.P + U →
            Part.takeTrip recovery before x p = passed.confirm g.id x (if g.tag = 0 then .confirmedByTrip else .unverified)) ∧
          (g.P + U < Vx → Part.takeTrip recovery before x p = told .unexpectedTrip (some g.id) [.val 4 (Vx - g.P - U)])))) ∧
  ∀ (p : Part) (front rear : List Pig) (g : Pig) (x : Nat) (outcome : PassageOutcome),
    let vx := p.map.stationCoord x
    let q := p.confirm g.id x outcome
    p.run.pigs = front ++ g :: rear → OrderedPigs p.run.pigs → g.P ≤ vx → g.rp < 10000 →
      OrderedPigs q.run.pigs ∧ q.run.pigs.map (·.id) = p.run.pigs.map (·.id) ∧
        (∀ (i : Nat) (a b : Pig), p.run.pigs[i]? = some a → q.run.pigs[i]? = some b → a.P ≤ b.P) ∧
        (∀ b ∈ q.run.pigs.take front.length, vx ≤ b.P) ∧
        ∃ j, q.run.pigs[front.length]? = some j ∧ j.id = g.id ∧ j.tag = g.tag ∧ j.P = vx ∧ j.M = 0 ∧ j.O = 0 ∧ j.rp = g.rp ∧
          j.slip = slipUpdate p.tuning.fmin g.slip (vx - g.fixAt) g.M ∧ j.fixAt = vx ∧ j.fixPoint = .station x ∧
          j.fixTime = p.stamp ∧ j.legEnd = g.legEnd ∧ j.overdue = false ∧ j.stuck = false ∧ j.stale = false

/-- The slip update leaves the slip alone on a short or unmetered hop; otherwise the new slip lies between the old one and the observed
one, a quarter of the way within one part in ten thousand, and within 0..2,500 (R80). -/
def Obligations.SlipUpdateIsBounded : Prop :=
  ∀ fmin s G M : Nat, s ≤ 2500 →
    let seen := min (10000 - G * 10000 / M) 2500
    let new := slipUpdate fmin s G M
    (M < fmin ∨ M = 0 → new = s) ∧
      (fmin ≤ M → M ≠ 0 →
        min s seen ≤ new ∧ new ≤ max s seen ∧ new ≤ 2500 ∧ 4 * new ≤ 3 * s + seen + 2 ∧ 3 * s + seen ≤ 4 * new + 1)

/-- From every state in which no pig is STUCK SUSPECT without being OVERDUE, a step leaves none so (R91, R92). -/
def Obligations.StuckPigsStayOverdue : Prop :=
  ∀ s t : State, (∀ g ∈ s.part.run.pigs, g.LateFlagsAgree) → step s = .next t → ∀ g ∈ t.part.run.pigs, g.LateFlagsAgree

/-- A check of a pig sets and clears its three flags by its O, its spread and its place, and changes nothing else of any pig: the tests of
R91, R92 and R93, not when they are made or what they report. -/
def Obligations.CheckSetsTheFlags : Prop :=
  ∀ (p : Part) (front rear : List Pig) (g : Pig), p.run.pigs = front ++ g :: rear → (p.run.pigs.map (·.id)).Nodup →
    let U := min p.tuning.umax (p.tuning.u0 + g.M * p.tuning.q / 10000)
    (p.checkPig g.id).run.pigs =
      front ++ { g with
        overdue := if U < g.O then true else if g.O = 0 then false else g.overdue
        stuck := if U + p.tuning.ks < g.O then true else if g.O = 0 then false else g.stuck
        blocked := decide (g.P = p.map.trapCoord g.legEnd) && decide (p.trapState g.legEnd ≠ .waiting) } :: rear

/-- From every state in which every slip, in the line, in a holding and among the defaults in force or stored, lies within 0..2,500 and
every slip residue below 10,000, a step leaves them so (R44). From every state in which each actuator table of both copies of the map and
of both banks has 16 entries of at most 100, a step leaves them so (R7). -/
def Obligations.SlipsStayInRange : Prop :=
  (∀ s t : State, s.part.SlipsInRange → step s = .next t → t.part.SlipsInRange) ∧
    ∀ s t : State, s.part.ActuatorsWhole → step s = .next t → t.part.ActuatorsWhole

/-- DECLARE PIG is refused at the first failing check of R61, and MODE outside TRACKING, and a refusal changes nothing. A place outside
every leg and a place in a barrel span are both refused ORDER (R21, R61; that a launcher's leg inside a barrel span makes no exception is
the model's reading, log entry 37). -/
def Obligations.DeclareRefusals : Prop :=
  ∀ (tag kind : Byte) (id code slip c : Nat) (l : Link) (s : State),
    id < 65536 → code < 65536 → slip < 65536 → c < 4294967296 →
    let body := leBytes 2 id ++ leBytes 2 code ++ [kind] ++ leBytes 2 slip ++ leBytes 4 c
    let m := s.part.lineMap.committed
    let refused := fun (r : ReplyCode) =>
      exec (.declarePig tag body) s = .next (s.become (s.part.onlyReplies l (requestFrame 0x30 tag body) r []))
    let range := id = 0 ∨ kind.toNat = 0 ∨ 4 < kind.toNat ∨ (slip ≠ 65535 ∧ 2500 < slip) ∨ m.lineEnd < c
    let known := id ∈ s.part.identities
    let full := s.part.run.pigs.length + s.part.run.reservations.length ≥ 12
    let inSpan := fun (P : Nat) =>
      ∃ e ∈ m.traps, e.2.role = .receiver ∧ ∃ n, e.2.pair = some n ∧ m.trapCoord e.1 < P ∧ P < m.trapCoord n
    let astray := ∀ P, m.coord c = some P → (∀ x ∈ m.legs, ¬(x.1 ≤ P ∧ P ≤ x.2.2)) ∨ inSpan P
    s.part.turnOf (requestFrame 0x30 tag body) l → checkSegments m.segments 0 0 = none →
      (s.part.link.mode ≠ .tracking → refused .mode) ∧
      (s.part.link.mode = .tracking → range → refused .range) ∧
      (s.part.link.mode = .tracking → ¬range → known → refused .duplicate) ∧
      (s.part.link.mode = .tracking → ¬range → ¬known → full → refused .full) ∧
      (s.part.link.mode = .tracking → ¬range → ¬known → ¬full → astray → refused .order)

/-- A DECLARE PIG that passes its checks enters the pig behind every pig at or ahead of its place, with the record R44 and R62 give, on
the lists of the fix points ahead; its run record is opened; no other pig moves; and the reply says where it stands (R62). The layout of
the reply's list of fix points is the model's reading (log entry 16). -/
def Obligations.DeclarePigEntersThePig : Prop :=
  ∀ (tag : Byte) (kind : PigKind) (id code : Nat) (slip : Option Nat) (c P r : Nat) (l : Link) (s : State),
    1 ≤ id → id < 65536 → code < 65536 → (∀ x, slip = some x → x ≤ 2500) → c < 4294967296 →
    let body := leBytes 2 id ++ leBytes 2 code ++ [BitVec.ofNat 8 kind.code] ++ leBytes 2 (slip.getD 65535) ++ leBytes 4 c
    let f := requestFrame 0x30 tag body
    let m := s.part.lineMap.committed
    let given := slip.getD (m.tuning.slipOf kind)
    let now : Stamp := { secs := s.part.clocks.secs, set := s.part.clocks.set }
    s.part.turnOf f l → s.part.link.mode = .tracking → OrderedPigs s.part.run.pigs → id ∉ s.part.identities →
    (∀ x ∈ s.part.records.active, x.id ≠ id) → s.part.run.pigs.length + s.part.run.reservations.length < 12 →
    m.coord c = some P → m.placeInLeg P = some r →
    ∃ t, exec (.declarePig tag body) s = .next t ∧ t.pending = s.pending ∧ t.part.sameAround s.part ∧
      t.part.repliedSince s.part f .ok
        ([.val 4 P, .val 4 (m.chainageOf P), .val 1 (m.sectionOf P), .val 1 r] ++
          listPoints ((m.stationsAhead code P r).map Point.station ++ [.trap r])) ∧
      (∃ front rear, s.part.run.pigs = front ++ rear ∧ (∀ a ∈ front, P ≤ a.P) ∧ (∀ b ∈ rear, b.P < P) ∧
        t.part.run.pigs.map Pig.tracked = front.map Pig.tracked ++ (id, P, 0, 0, given, 0) :: rear.map Pig.tracked) ∧
      (∃ g ∈ t.part.run.pigs, g.id = id ∧ g.tag = code ∧ g.kind = kind ∧ g.fixAt = P ∧ g.fixPoint = .none ∧ g.fixTime = now ∧
        g.legEnd = r ∧ g.overdue = false ∧ g.stuck = false ∧ g.stale = false ∧ g.noMeter = s.part.unmetered P ∧
        g.seq = s.part.run.nextSeq) ∧
      t.part.run.nextSeq = s.part.run.nextSeq + 1 ∧ t.part.run.reservations = s.part.run.reservations ∧
      (∀ n ∈ m.stationsAhead code P r, Table.has s.part.attr.stations n = true → id ∈ t.part.expected n) ∧
      (Table.has s.part.attr.receivers r = true → id ∈ t.part.awaited r) ∧
      t.part.records.active = s.part.records.active ++
        [{ serial := s.part.records.nextSerial, id := id, tag := code, kind := kind, opened := now, location := .inLine,
           outcome := none, closed := none, truncated := false, dropped := 0,
           entries := [{ kind := .declared, point := .none, time := now, P := some P, M := some 0, slip := given }] }] ∧
      t.part.records.completed = s.part.records.completed ∧ t.part.records.cursor = s.part.records.cursor

/-- A FIX PIG within its neighbours, in TRACKING or FROZEN, sets the pig at the new place as a fix: M, O and the late flags cleared, slip
and residue kept; it stands on no list at or below the place and on no unobserved list; the order is kept (R63, R64). It is refused RANGE
for identity 0 or a chainage above the line end, NO SUCH for a pig not in the table, and ORDER for a place outside every leg, in a barrel
span, above a pig in front or below a pig behind, in this order, and a refusal changes nothing. That ORDER is also the answer for a place in a
barrel span that a launcher's leg covers, and the layout and the order of the reply's two lists, are the model's reading (log entries 37, 16 and
57). -/
def Obligations.FixPigMovesThePig : Prop :=
  (∀ (tag : Byte) (id c : Nat) (l : Link) (s : State), id < 65536 → c < 4294967296 →
    let body := leBytes 2 id ++ leBytes 4 c
    let m := s.part.lineMap.committed
    let refused := fun (r : ReplyCode) =>
      exec (.fixPig tag body) s = .next (s.become (s.part.onlyReplies l (requestFrame 0x31 tag body) r []))
    let range := id = 0 ∨ m.lineEnd < c
    let astray := fun (P : Nat) => (∀ x ∈ m.legs, ¬(x.1 ≤ P ∧ P ≤ x.2.2)) ∨
      ∃ e ∈ m.traps, e.2.role = .receiver ∧ ∃ n, e.2.pair = some n ∧ m.trapCoord e.1 < P ∧ P < m.trapCoord n
    s.part.turnOf (requestFrame 0x31 tag body) l → s.part.link.mode ≠ .setup → checkSegments m.segments 0 0 = none →
      (range → refused .range) ∧
      (¬range → (∀ g ∈ s.part.run.pigs, g.id ≠ id) → refused .noSuch) ∧
      (∀ (front rear : List Pig) (g : Pig) (P : Nat), ¬range → s.part.run.pigs = front ++ g :: rear → g.id = id →
        OrderedPigs s.part.run.pigs → m.coord c = some P →
        astray P ∨ (∃ a ∈ front, a.P < P) ∨ (∃ b ∈ rear, P < b.P) → refused .order)) ∧
  ∀ (tag : Byte) (c P r : Nat) (front rear : List Pig) (g : Pig) (l : Link) (s : State),
    let body := leBytes 2 g.id ++ leBytes 4 c
    let f := requestFrame 0x31 tag body
    let m := s.part.lineMap.committed
    1 ≤ g.id → g.id < 65536 → c < 4294967296 → s.part.turnOf f l → s.part.link.mode ≠ .setup →
    s.part.run.pigs = front ++ g :: rear → OrderedPigs s.part.run.pigs → (∀ a ∈ front, P ≤ a.P) → (∀ b ∈ rear, b.P ≤ P) →
    m.coord c = some P → m.placeInLeg P = some r →
    ∃ t, exec (.fixPig tag body) s = .next t ∧ t.pending = s.pending ∧ t.part.sameAround s.part ∧
      t.part.repliedSince s.part f .ok
        ([.val 4 P, .val 4 (m.chainageOf P), .val 1 r] ++ listPoints (s.part.fixLeaves g.id P r) ++
          listPoints (s.part.fixJoins g.id g.tag P r)) ∧
      OrderedPigs t.part.run.pigs ∧ t.part.run.pigs.map (·.id) = s.part.run.pigs.map (·.id) ∧
      t.part.run.reservations = s.part.run.reservations ∧
      (∃ j, t.part.run.pigs[front.length]? = some j ∧ j.tracked = (g.id, P, 0, 0, g.slip, g.rp) ∧ j.tag = g.tag ∧ j.fixAt = P ∧
        j.fixPoint = .none ∧ j.fixTime = { secs := s.part.clocks.secs, set := s.part.clocks.set } ∧ j.legEnd = r ∧
        j.overdue = false ∧ j.stuck = false ∧ j.stale = false) ∧
      (∀ n, g.id ∉ t.part.unobserved n) ∧ (∀ n, m.stationCoord n ≤ P → g.id ∉ t.part.expected n)

/-- WRITE OFF PIG, in TRACKING or FROZEN: RANGE for identity 0, NO SUCH for a pig not in the table; otherwise the entry leaves the table
and every list, the record is completed WRITTEN OFF, and the other pigs keep their order (R65). -/
def Obligations.WriteOffRemovesThePig : Prop :=
  ∀ (tag : Byte) (id : Nat) (l : Link) (s : State),
    let body := leBytes 2 id
    let f := requestFrame 0x32 tag body
    id < 65536 → s.part.turnOf f l → s.part.link.mode ≠ .setup →
    (id = 0 → exec (.writeOffPig tag body) s = .next (s.become (s.part.onlyReplies l f .range []))) ∧
    (id ≠ 0 → (∀ g ∈ s.part.run.pigs, g.id ≠ id) →
      exec (.writeOffPig tag body) s = .next (s.become (s.part.onlyReplies l f .noSuch []))) ∧
    (∀ (front rear : List Pig) (g : Pig), id ≠ 0 → g.id = id → s.part.run.pigs = front ++ g :: rear →
      OrderedPigs s.part.run.pigs →
      ∃ t, exec (.writeOffPig tag body) s = .next t ∧ t.pending = s.pending ∧ t.part.sameAround s.part ∧
        t.part.repliedSince s.part f .ok [.val 4 g.P, .val 4 (s.part.map.chainageOf g.P)] ∧
        OrderedPigs t.part.run.pigs ∧ t.part.run.pigs.map (·.id) = (front ++ rear).map (·.id) ∧
        t.part.run.reservations = s.part.run.reservations ∧
        (∀ n, id ∉ t.part.expected n ∧ id ∉ t.part.unobserved n ∧ id ∉ t.part.awaited n) ∧
        (∀ x ∈ t.part.records.active, x.id ≠ id) ∧
        (∀ x, (s.part.records.active.find? fun y => y.id = id) = some x →
          t.part.records.completed.getLast? = some { x with
            location := .completed, outcome := some .writtenOff,
            closed := some { secs := s.part.clocks.secs, set := s.part.clocks.set } }))

/-- QUERY PIG for a pig in the line, in a holding or nowhere, and QUERY RUN TABLE, in every mode (R66, R67). The layout of the replies is the
model's reading where the appendix does not give it (log entry 16), and that M and O have a presence byte its choice (log entry 38). -/
def Obligations.PigQueriesAnswer : Prop :=
  ∀ (tag : Byte) (id : Nat) (l : Link) (s : State), id < 65536 →
    let f := requestFrame 0x33 tag (leBytes 2 id)
    let p := s.part
    let answers := fun (code : ReplyCode) (fields : List Field) =>
      exec (.queryPig tag (leBytes 2 id)) s = .next (s.become (p.onlyReplies l f code fields))
    let fix := fun (i : Nat) => (p.nextFix i).getD (Point.none, 0)
    let station : Point → Option Nat := fun x =>
      match x with
      | .none => none
      | .station n => some n
      | .trap n => (Table.get p.map.traps n).map (·.station)
    (p.turnOf f l →
      (id = 0 → answers .range []) ∧
      (id ≠ 0 → id ∉ p.identities → answers .noSuch []) ∧
      (∀ front rear g, id ≠ 0 → g.id = id → p.run.pigs = front ++ g :: rear → (∀ a ∈ front, a.id ≠ id) →
        answers .ok
          ([.val 1 0, .opt 1 none, .opt 1 (some (front.length + 1)), .val 2 g.id, .val 2 g.tag, .val 1 g.kind.code, .val 2 g.slip,
            .opt 2 (some g.rp), .opt 4 (some g.P), .opt 4 (some (p.map.chainageOf g.P)), .opt 1 (some (p.map.sectionOf g.P)),
            .pres 4 (some g.M), .pres 4 (some g.O), .opt 4 (some (p.spread g)), .opt 4 (some g.fixAt)] ++ g.fixPoint.fields ++
           [.pres 4 (some g.fixTime.secs.toNat), .opt 1 (some g.legEnd),
            .opt 1 (some (flagSet [g.overdue, g.stuck, g.blocked, g.noMeter, g.stale]))] ++ (fix id).1.fields ++
           [.opt 1 ((station (fix id).1).map fun x => (p.live x).code), .opt 4 (some ((fix id).2 - g.P)),
            .opt 4 (some (p.limit g).value), .opt 1 (some (if (p.limit g).point.isSome then 0 else 1))])) ∧
      (∀ n r h, id ≠ 0 → (∀ g ∈ p.run.pigs, g.id ≠ id) → p.IdentitiesDistinct → (n, r) ∈ p.traps → r.holding = some h → h.id = id →
        answers .ok
          [.val 1 1, .opt 1 (some n), .opt 1 none, .val 2 h.id, .val 2 h.tag, .val 1 h.kind.code, .val 2 h.slip, .opt 2 none, .opt 4 none,
           .opt 4 none, .opt 1 none, .pres 4 none, .pres 4 none, .opt 4 none, .opt 4 none, .opt 1 none, .opt 1 none, .pres 4 none,
           .opt 1 none, .opt 1 none, .opt 1 none, .opt 1 none, .opt 1 none, .opt 4 none, .opt 4 none, .opt 1 none])) ∧
    (p.turnOf (requestFrame 0x34 tag []) l →
      exec (.queryRunTable tag []) s = .next (s.become (p.onlyReplies l (requestFrame 0x34 tag []) .ok
        ([.val 4 p.run.pigs.length, .val 1 p.run.reservations.length] ++ p.run.reservations.map (Field.val 1) ++
          p.run.pigs.flatMap fun g =>
            [.val 2 g.id, .val 2 g.tag, .val 4 g.P, .val 4 (p.map.chainageOf g.P), .val 1 (p.map.sectionOf g.P), .val 4 g.O,
             .val 4 (p.spread g), .val 1 (flagSet [g.overdue, g.stuck, g.blocked, g.noMeter, g.stale])] ++ (fix g.id).1.fields ++
            [.val 4 ((fix g.id).2 - g.P)]))))

/-! ## Trap sequences (chapter 6) -/

/-- LOAD PIG of a launcher in TRACKING is refused at the first failing check of R102, changing nothing; otherwise the holding takes the
pig, the launcher is LOADED, the pig's record is opened with LOADED, and the reply carries the slip given (R102). -/
def Obligations.LoadPigFillsTheLauncher : Prop :=
  ∀ (tag n kind : Byte) (id code slip : Nat) (m : Trap) (r : TrapRec) (l : Link) (s : State),
    1 ≤ n.toNat → n.toNat ≤ 16 → id < 65536 → code < 65536 → slip < 65536 →
    let body := [n] ++ leBytes 2 id ++ leBytes 2 code ++ [kind] ++ leBytes 2 slip
    let f := requestFrame 0x40 tag body
    let now : Stamp := { secs := s.part.clocks.secs, set := s.part.clocks.set }
    let refused := fun (c : ReplyCode) => exec (.loadPig tag body) s = .next (s.become (s.part.onlyReplies l f c []))
    let range := id = 0 ∨ kind.toNat = 0 ∨ 4 < kind.toNat ∨ (slip ≠ 65535 ∧ 2500 < slip)
    let known := id ∈ s.part.identities
    s.part.turnOf f l → s.part.link.mode = .tracking →
    Table.get s.part.map.traps n.toNat = some m → Table.get s.part.traps n.toNat = some r →
      (m.role = .receiver → refused .noSuch) ∧
      (m.role = .launcher → range → refused .range) ∧
      (m.role = .launcher → ¬range → known → refused .duplicate) ∧
      (m.role = .launcher → ¬range → ¬known → r.state ≠ .empty → refused .trapBusy) ∧
      (∀ k, m.role = .launcher → ¬range → PigKind.ofCode kind.toNat = some k → ¬known → r.state = .empty →
        (∀ x ∈ s.part.records.active, x.id ≠ id) →
        let given := if slip = 65535 then s.part.tuning.slipOf k else slip
        exec (.loadPig tag body) s = .next (s.become
          ({ s.part with
              traps := Table.modify s.part.traps n.toNat fun x =>
                { x with state := .loaded, holding := some { id := id, tag := code, kind := k, slip := given } }
              records := { s.part.records with
                nextSerial := s.part.records.nextSerial + 1
                active := s.part.records.active ++
                  [({ serial := s.part.records.nextSerial, id := id, tag := code, kind := k, opened := now,
                      location := .inTrap n.toNat, outcome := none, closed := none, truncated := false, dropped := 0,
                      entries := [{ kind := .loaded, point := .trap n.toNat, time := now, P := none, M := none,
                                    slip := given }] } : RunRec)] } }.onlyReplies l f .ok [.val 2 given])))

/-- LAUNCH and RECEIVE ARM. A launcher that is not LOADED or not free is TRAP BUSY, a full run table FULL, a pig of its leg within the
separation TOO CLOSE, in this order; a receiver that is not EMPTY or not free is TRAP BUSY; otherwise the trap becomes EQUALISING, its
EQUALISE OPEN is placed or held, and a launch takes its reservation (R101, R103, R111). The auto-arm test of a receiver for the pig that
heads its list starts the same receive with notice RECEIVER ARMED when auto-arm is on, the receiver EMPTY and free, the mode not SETUP,
the pig not suppressed and its distance within the lead, and otherwise changes nothing (R110; a lead beyond 4 bytes is sent as log entry
38 says). -/
def Obligations.LaunchAndArmStart : Prop :=
  (∀ (p : Part) (t : Nat) (m : Trap) (r : TrapRec) (g : Pig) (rest : List Nat) (i : Fin 4),
    Table.get p.map.traps t = some m → Table.get p.traps t = some r → m.role = .receiver → p.awaited t = g.id :: rest →
    p.pig g.id = some g → p.map.claim m.station = some i → (∀ h ∈ p.cmds.held, h.trap ≠ t) →
    let U := min p.tuning.umax (p.tuning.u0 + g.M * p.tuning.q / 10000)
    let oil :=
      match Table.get p.meters.sections (p.map.sectionOf g.P) with
      | none => 0
      | some k =>
        if k.lastInterval = 0 then 0 else (m.armTime * 1000 * k.lastCredit + (k.lastInterval - 1)) / k.lastInterval
    let lead := max m.minLead (U + oil)
    let distance := p.map.trapCoord t - g.P
    let arms := m.autoArm = true ∧ r.state = .empty ∧ p.FreeToStart t m ∧ p.link.mode ≠ .setup ∧ r.suppressed ≠ some g.id ∧
      distance ≤ lead
    let q := p.autoArm t
    (¬arms → q = p) ∧
    (arms → q.run = p.run ∧ q.attr = p.attr ∧ q.records = p.records ∧
      q.link = p.link.queue
        { kind := .receiverArmed, time := p.stamp, pig := some g.id, station := none, trap := some t
          detail := [.val 4 lead, .val 4 distance] } ∧
      q.Started p t m i { r with
        state := .equalising, step := some .equalising, abort := false, eqSeen := false, target := some g.id, suppressed := none
        result := none, deadline := some (p.after (m.equaliseTimeout * 1000)) })) ∧
  ∀ (tag n : Byte) (m : Trap) (r : TrapRec) (i : Fin 4) (l : Link) (s : State),
    1 ≤ n.toNat → n.toNat ≤ 16 → Table.get s.part.map.traps n.toNat = some m → Table.get s.part.traps n.toNat = some r →
    (∀ h ∈ s.part.cmds.held, h.trap ≠ n.toNat) →
    let V := s.part.map.trapCoord n.toNat
    let started : TrapRec := { r with
      state := .equalising, step := some .equalising, abort := false, eqSeen := false, target := none
      deadline := some (s.part.after (m.equaliseTimeout * 1000)) }
    let f := requestFrame 0x41 tag [n]
    let g := requestFrame 0x42 tag [n]
    (∀ e, m.role = .launcher → s.part.turnOf f l → s.part.link.mode = .tracking → s.part.map.launcherEnd V = some e →
      OrderedPigs s.part.run.pigs →
      let refused := fun (c : ReplyCode) => exec (.launch tag [n]) s = .next (s.become (s.part.onlyReplies l f c []))
      let busy := r.state ≠ .loaded ∨ ¬s.part.FreeToStart n.toNat m
      let full := 12 ≤ s.part.run.pigs.length + s.part.run.reservations.length
      let close := ∃ x ∈ s.part.run.pigs, x.legEnd = e.1 ∧ V ≤ x.P ∧ x.P < V + s.part.tuning.smin
      (busy → refused .trapBusy) ∧ (¬busy → full → refused .full) ∧ (¬busy → ¬full → close → refused .tooClose) ∧
      (¬busy → ¬full → ¬close → s.part.map.claim m.station = some i →
        ∃ t, exec (.launch tag [n]) s = .next t ∧ t.pending = s.pending ∧ t.part.sameAround s.part ∧ t.part.link = l ∧
          t.part.repliedSince s.part f .ok [] ∧ t.part.run.pigs = s.part.run.pigs ∧ t.part.records = s.part.records ∧
          t.part.attr = s.part.attr ∧
          (∀ u, u ∈ t.part.run.reservations ↔ u = n.toNat ∨ u ∈ s.part.run.reservations) ∧
          t.part.Started s.part n.toNat m i started)) ∧
    (m.role = .receiver → s.part.turnOf g l → s.part.link.mode ≠ .setup →
      let busy := r.state ≠ .empty ∨ ¬s.part.FreeToStart n.toNat m
      (busy → exec (.receiveArm tag [n]) s = .next (s.become (s.part.onlyReplies l g .trapBusy []))) ∧
      (¬busy → s.part.map.claim m.station = some i →
        ∃ t, exec (.receiveArm tag [n]) s = .next t ∧ t.pending = s.pending ∧ t.part.sameAround s.part ∧ t.part.link = l ∧
          t.part.repliedSince s.part g .ok [.pres 2 (s.part.awaited n.toNat).head?] ∧ t.part.run = s.part.run ∧
          t.part.records = s.part.records ∧ t.part.attr = s.part.attr ∧
          t.part.Started s.part n.toNat m i
            { started with target := (s.part.awaited n.toNat).head?, suppressed := none, result := none }))

/-- TRANSFER moves the pig of a HOLDING receiver to its EMPTY paired launcher and REMOVE PIG takes a pig out of a HOLDING receiver or a
LOADED launcher, completing its record; in any other state both are TRAP BUSY (R116, R117). In the modes that take them, LAUNCH, RECEIVE ARM, TRANSFER,
REMOVE PIG, ABORT and RESUME are refused RANGE for an index outside 1..16, and NO SUCH for a trap that the map does not have or that is not
of the role named (R100). -/
def Obligations.TransferAndRemove : Prop :=
  (∀ (tag n : Byte) (l : Link) (s : State),
    let refused := fun (c : Instr) (kind : Nat) (fits : Trap → Prop) =>
      let f := requestFrame kind tag [n]
      s.part.turnOf f l →
        (n.toNat = 0 ∨ 16 < n.toNat → exec c s = .next (s.become (s.part.onlyReplies l f .range []))) ∧
        (1 ≤ n.toNat → n.toNat ≤ 16 → (∀ m, Table.get s.part.map.traps n.toNat = some m → ¬fits m) →
          exec c s = .next (s.become (s.part.onlyReplies l f .noSuch [])))
    (s.part.link.mode = .tracking → refused (.launch tag [n]) 0x41 fun m => m.role = .launcher) ∧
    (s.part.link.mode ≠ .setup →
      refused (.receiveArm tag [n]) 0x42 (fun m => m.role = .receiver) ∧
      refused (.transfer tag [n]) 0x43 (fun m => m.role = .receiver ∧ m.pair ≠ none) ∧
      refused (.removePig tag [n]) 0x44 (fun _ => True) ∧ refused (.abort tag [n]) 0x45 (fun _ => True) ∧
      refused (.resume tag [n]) 0x46 fun _ => True)) ∧
  ∀ (tag n : Byte) (m : Trap) (r : TrapRec) (h : HeldPig) (rec' : RunRec) (l : Link) (s : State),
    1 ≤ n.toNat → n.toNat ≤ 16 → s.part.link.mode ≠ .setup →
    Table.get s.part.map.traps n.toNat = some m → Table.get s.part.traps n.toNat = some r →
    let f := requestFrame 0x43 tag [n]
    let g := requestFrame 0x44 tag [n]
    let now : Stamp := { secs := s.part.clocks.secs, set := s.part.clocks.set }
    (∀ (u : Nat) (w : TrapRec), s.part.turnOf f l → m.role = .receiver → m.pair = some u → Table.get s.part.traps u = some w →
      (r.state ≠ .holding ∨ w.state ≠ .empty →
        exec (.transfer tag [n]) s = .next (s.become (s.part.onlyReplies l f .trapBusy []))) ∧
      (r.state = .holding → w.state = .empty → r.holding = some h → u ≠ n.toNat → s.part.awaited n.toNat = [] →
        ∃ t, exec (.transfer tag [n]) s = .next t ∧
          t = s.become ({ s.part with
            traps := Table.modify (Table.modify s.part.traps n.toNat fun x => { x with state := .empty, holding := none }) u
              fun x => { x with state := .loaded, holding := some h }
            records := t.part.records }.onlyReplies l f .ok [.val 1 u]) ∧
          t.part.records.completed = s.part.records.completed ∧ t.part.records.cursor = s.part.records.cursor ∧
          (∀ x ∈ s.part.records.active, x.id = h.id → x.entries.length < 48 →
            { x with
              location := .inTrap u
              entries := x.entries ++
                [{ kind := .transferred, point := .trap u, time := now, P := none, M := none, slip := h.slip }] } ∈
              t.part.records.active))) ∧
    (s.part.turnOf g l →
      (r.state ≠ .holding → r.state ≠ .loaded →
        exec (.removePig tag [n]) s = .next (s.become (s.part.onlyReplies l g .trapBusy []))) ∧
      (r.state = .holding ∨ r.state = .loaded → r.holding = some h → s.part.awaited n.toNat = [] →
        (s.part.records.active.find? fun x => x.id = h.id) = some rec' →
        ∃ t, exec (.removePig tag [n]) s = .next t ∧
          t = s.become ({ s.part with
            traps := Table.modify s.part.traps n.toNat fun x => { x with state := .empty, holding := none }
            records := t.part.records }.onlyReplies l g .ok [.val 2 h.id]) ∧
          t.part.records.active = (s.part.records.active.filter fun x => x.id != h.id) ∧
          t.part.records.completed.getLast? = some { rec' with
            location := .completed, outcome := some (if r.state = .holding then .received else .unloaded),
            closed := some now }))

/-- ABORT and RESUME, with no command outstanding or held, but for the VALVE BUSY of a RESUME, and no identity twice in the run table.
ABORT without a sequence is NO SUCH and in RESTORING changes nothing; otherwise the trap is RESTORING with abort yes and mainline OPEN
placed first. RESUME without a sequence is NO SUCH, of an active one TRAP BUSY, and with another's command on a valve of the step VALVE
BUSY; otherwise the step stands again with its deadline afresh: its FAILED and NOT ISSUED commands are issued again, a step whose commands
are all COMPLETE is judged at once, one stopped at EQUALISING waits afresh for the barrel, DRIVING tests separation when its throttle was
NOT ISSUED and restores when its pig has gone, and WAITING re-reads its list (R120, R122; left out: a RESUME that finds commands of its
own outstanding). The steps on the way, each judged when what it waits for has come: EQUALISING opens barrel and flow; OPENING diverts a
receiver with its throttle, drives a launcher with its throttle (placed, held by the interlock, or not issued while separation fails), and
restores a launcher whose pig has gone; DRIVING restores once the pig has gone and its command has ended; DIVERTING becomes WAITING, or
RESTORING with NO PIG on an empty list; WAITING becomes RESTORING at the receive trip; RESTORING closes flow, barrel and equalise once the
mainline is open, and then ends with notice SEQUENCE DONE as the trap's role, holding and abort say (R105, R106, R108, R112 to R115,
R121). That a barrel seen equalised during the step is remembered until its command is COMPLETE, and that 'already in RESTORING' is read
as the state RESTORING, are the model's choices (log entries 33 and 22). -/
def Obligations.AbortAndResume : Prop :=
  (∀ (p : Part) (t : Nat) (m : Trap) (r : TrapRec) (i : Fin 4),
    Table.get p.map.traps t = some m → Table.get p.traps t = some r →
    let q := p.judge t
    let done := ∀ c ∈ r.cmds, c.cond = .complete
    let issues := fun (role : ValveRole) (action : Action) (cond : StepCond) => ({ role := role, action := action, cond := cond } : StepCmd)
    let cmd := fun (role : ValveRole) (action : Action) (target : Option Nat) =>
      p.queuedCmd m.station (m.slotOf role) action target (.sequence t) i
    let restoring := r.inStep .restoring none .none
      [issues .mainline .opening .placed, issues .flow .closing .notIssued, issues .barrel .closing .notIssued,
       issues .equalise .closing .notIssued]
    let throttled := [cmd .mainline .throttle (some (max 10 (min m.throttle 90)))]
    let alone := fun (own : Option Nat) => ∀ g ∈ p.run.pigs, own ≠ some g.id → p.near m.station g = false
    (r.state = .equalising → ¬(done ∧ r.eqSeen = true) → q = p) ∧
    (r.state = .equalising → done → r.eqSeen = true → m.barrel ≠ m.flow → p.RoomFor t m i 2 [m.barrel, m.flow] →
      q.Stepped p t i
        (r.inStep .opening none .none [issues .barrel .opening .placed, issues .flow .opening .placed])
        [cmd .barrel .opening none, cmd .flow .opening none]) ∧
    (r.state = .opening ∨ r.state = .diverting → ¬done → q = p) ∧
    (r.state = .opening → done → m.role = .receiver → alone r.target → p.RoomFor t m i 1 [m.mainline] →
      q.Stepped p t i
        (r.inStep .diverting (some (p.after (m.equaliseTimeout * 1000))) .none [issues .mainline .throttle .placed]) throttled) ∧
    (∀ (h : HeldPig) (e : Nat × Nat), r.state = .opening → done → m.role = .launcher → r.holding = some h →
      p.map.launcherEnd (p.map.trapCoord t) = some e → OrderedPigs p.run.pigs →
      let V := p.map.trapCoord t
      let close := ∃ x ∈ p.run.pigs, x.legEnd = e.1 ∧ V ≤ x.P ∧ x.P < V + p.tuning.smin
      let driving := r.inStep .driving (some (p.after (m.driveTimeout * 1000)))
      (close → q.Stepped p t i (driving .separation [issues .mainline .throttle .notIssued]) []) ∧
      (¬close → alone (some h.id) → p.RoomFor t m i 1 [m.mainline] →
        q.Stepped p t i (driving .none [issues .mainline .throttle .placed]) throttled) ∧
      (¬close → ¬alone (some h.id) → (∃ v, p.map.valve m.station m.mainline = some v ∧ v.role = .mainline) →
        p.RoomFor t m i 1 [m.mainline] →
        Table.get q.traps t = some (driving .interlock [issues .mainline .throttle .held]) ∧ q.cmds.cmds = p.cmds.cmds ∧
          q.cmds.held = p.cmds.held ++
            [{ trap := t, station := m.station, slot := m.mainline, action := .throttle, target := some (max 10 (min m.throttle 90)),
               cause := .interlock }])) ∧
    (r.state = .opening → done → m.role = .launcher → r.holding = none → p.RoomFor t m i 1 [m.mainline] →
      q.Stepped p t i restoring [cmd .mainline .opening none]) ∧
    (r.state = .driving → r.step = some .driving → r.holding = none → p.RoomFor t m i 1 [m.mainline] →
      q.Stepped p t i restoring [cmd .mainline .opening none]) ∧
    (r.state = .diverting → done → r.holding = none → p.awaited t ≠ [] → (p.run.pigs.map (·.id)).Nodup →
      q = { p with
        traps := Table.modify p.traps t fun x => x.inStep .waiting none .none []
        run := { p.run with pigs := p.run.pigs.map fun g =>
          if g.legEnd = t ∧ g.P = p.map.trapCoord t then { g with blocked := false } else g } }) ∧
    (r.state = .diverting → done → r.holding = none → p.awaited t = [] → p.RoomFor t m i 1 [m.mainline] →
      q.Stepped p t i { restoring with result := some .noPig } [cmd .mainline .opening none]) ∧
    (∀ (g : Pig) (rest : List Nat), r.state = .waiting → m.role = .receiver → r.holding = none → p.awaited t = g.id :: rest →
      p.pig g.id = some g → p.cmds.held = [] → (∀ c ∈ p.cmds.cmds, ¬(c.station = m.station ∧ c.slot = m.mainline)) →
      (∀ u ∈ p.sharers t m, (p.trapState u).inProgress = false) →
      ∃ cond, (cond = .placed ∨ cond = .held) ∧ ∃ y, Table.get (p.barrelTrip t).traps t = some y ∧ y.state = .restoring ∧
        y.step = some .restoring ∧ y.result = some .received ∧ y.target = none ∧
        y.holding = some { id := g.id, tag := g.tag, kind := g.kind, slip := g.slip } ∧
        y.cmds = [issues .mainline .opening cond, issues .flow .closing .notIssued, issues .barrel .closing .notIssued,
                  issues .equalise .closing .notIssued]) ∧
    (r.state = .restoring → (m.slots).Nodup →
      r.cmds = [issues .mainline .opening .complete, issues .flow .closing .notIssued, issues .barrel .closing .notIssued,
                issues .equalise .closing .notIssued] →
      (∀ k ∈ [m.flow, m.barrel, m.equalise], ∀ v, p.map.valve m.station k = some v → v.role ≠ .mainline) →
      p.RoomFor t m i 3 [m.flow, m.barrel, m.equalise] →
      q.Stepped p t i
        { r with hold := .none, cmds :=
          [issues .mainline .opening .complete, issues .flow .closing .placed, issues .barrel .closing .placed,
           issues .equalise .closing .placed] }
        [cmd .flow .closing none, cmd .barrel .closing none, cmd .equalise .closing none]) ∧
    (r.state = .restoring → done →
      let ends := fun (s : TrapState) (suppressed : Option Nat) (result : Field) =>
        Table.get q.traps t = some { r with
          state := s, step := none, abort := false, target := none, launched := none, cmds := [], hold := .none, deadline := none
          suppressed := suppressed } ∧
        (p.link.queue { kind := .sequenceDone, time := p.stamp, pig := none, station := none, trap := some t
                        detail := [result] }).notices <+: q.link.notices ∧
        q.run.pigs = p.run.pigs ∧ q.attr = p.attr
      (m.role = .launcher → r.abort = false → ends .empty r.suppressed (.val 1 Result.launched.code) ∧
        q.run.reservations = p.run.reservations) ∧
      (m.role = .launcher → r.abort = true → r.holding = none → ends .empty r.suppressed (.val 1 Result.aborted.code) ∧
        q.run.reservations = p.run.reservations) ∧
      (m.role = .launcher → r.abort = true → r.holding.isSome = true → ends .loaded r.suppressed (.val 1 Result.aborted.code) ∧
        q.run.reservations = p.run.reservations.filter (· != t)) ∧
      (m.role = .receiver → r.abort = false → r.holding.isSome = true →
        ends .holding r.suppressed (.opt 1 (r.result.map Result.code))) ∧
      (m.role = .receiver → r.abort = true → r.holding.isSome = true → ends .holding r.suppressed (.val 1 Result.aborted.code)) ∧
      (m.role = .receiver → r.abort = false → r.holding = none → p.awaited t = [] →
        ends .empty r.suppressed (.opt 1 (r.result.map Result.code))) ∧
      (m.role = .receiver → r.abort = true → r.holding = none →
        ends .empty (p.awaited t).head? (.val 1 Result.aborted.code)))) ∧
  (∀ (tag n : Byte) (m : Trap) (r : TrapRec) (c : StepCmd) (x : Cmd) (l : Link) (s : State),
    1 ≤ n.toNat → n.toNat ≤ 16 → s.part.link.mode ≠ .setup → s.part.turnOf (requestFrame 0x46 tag [n]) l →
    Table.get s.part.map.traps n.toNat = some m → Table.get s.part.traps n.toNat = some r → r.state = .fault ∨ r.state = .suspended →
    c ∈ r.cmds → c.cond ≠ .complete → s.part.cmds.find m.station (m.slotOf c.role) = some x → x.origin ≠ .sequence n.toNat →
    exec (.resume tag [n]) s = .next (s.become (s.part.onlyReplies l (requestFrame 0x46 tag [n]) .valveBusy []))) ∧
  ∀ (tag n : Byte) (m : Trap) (r : TrapRec) (i : Fin 4) (l : Link) (s : State),
    1 ≤ n.toNat → n.toNat ≤ 16 → s.part.link.mode ≠ .setup → s.part.cmds.cmds = [] → s.part.cmds.held = [] →
    (s.part.run.pigs.map (·.id)).Nodup →
    Table.get s.part.map.traps n.toNat = some m → Table.get s.part.traps n.toNat = some r →
    let f := requestFrame 0x45 tag [n]
    let g := requestFrame 0x46 tag [n]
    let aborts := fun (c : ReplyCode) => exec (.abort tag [n]) s = .next (s.become (s.part.onlyReplies l f c []))
    let resumes := fun (c : ReplyCode) => exec (.resume tag [n]) s = .next (s.become (s.part.onlyReplies l g c []))
    (s.part.turnOf f l →
      (r.state.inProgress = false → aborts .noSuch) ∧
      (r.state = .restoring → aborts .ok) ∧
      (r.state.inProgress = true → r.state ≠ .restoring → s.part.map.claim m.station = some i →
        (s.part.port i).queue.length < 8 →
        ∃ t, exec (.abort tag [n]) s = .next t ∧ t.pending = s.pending ∧ t.part.sameAround s.part ∧
          t.part.repliedSince s.part f .ok [] ∧ t.part.records = s.part.records ∧ t.part.attr = s.part.attr ∧
          t.part.run.reservations = s.part.run.reservations ∧
          t.part.run.pigs.map Pig.tracked = s.part.run.pigs.map Pig.tracked ∧
          Table.get t.part.traps n.toNat = some { r with
            state := .restoring, step := some .restoring, abort := true, target := none, hold := .none, deadline := none
            cmds := [{ role := .mainline, action := .opening, cond := .placed },
                     { role := .flow, action := .closing, cond := .notIssued },
                     { role := .barrel, action := .closing, cond := .notIssued },
                     { role := .equalise, action := .closing, cond := .notIssued }] } ∧
          (∀ u, u ≠ n.toNat → Table.get t.part.traps u = Table.get s.part.traps u) ∧
          t.part.cmds.cmds = [s.part.queuedCmd m.station m.mainline .opening none (.sequence n.toNat) i] ∧
          t.part.cmds.held = [] ∧
          (t.part.port i).queue = (s.part.port i).queue ++ [(m.station, m.mainline)])) ∧
    (s.part.turnOf g l →
      (r.state.inProgress = false → resumes .noSuch) ∧
      (r.state.active = true → resumes .trapBusy) ∧
      (Table.Rising s.part.traps → r.state = .fault ∨ r.state = .suspended → r.step = some .equalising →
        (∀ c ∈ r.cmds, c.cond = .complete) →
        exec (.resume tag [n]) s = .next (s.become
          ({ s.part with traps := Table.modify s.part.traps n.toNat fun x =>
              { x with
                state := .equalising, hold := .none, eqSeen := false
                deadline := some (s.part.after (m.equaliseTimeout * 1000)) } }.onlyReplies l g .ok []))) ∧
      (Table.Rising s.part.traps → r.state = .fault ∨ r.state = .suspended →
        let again : TrapState → Option Tick → TrapRec → TrapRec := fun x deadline y =>
          { y with state := x, hold := .none, deadline := deadline, eqSeen := y.eqSeen && decide (x ≠ .equalising) }
        let stood : TrapState → Option Tick → Part := fun x deadline =>
          { s.part with link := l, traps := Table.modify s.part.traps n.toNat fun y => again x deadline y }
        let judged := fun (x : TrapState) (deadline : Option Tick) =>
          let z := (stood x deadline).judge n.toNat
          exec (.resume tag [n]) s = .next (s.become (z.onlyReplies z.link g .ok []))
        let timed := fun (x : TrapState) => if x = .equalising ∨ x = .diverting then some (s.part.after (m.equaliseTimeout * 1000)) else none
        let alone := ∀ y ∈ s.part.run.pigs, s.part.originPig (.sequence n.toNat) ≠ some y.id → s.part.near m.station y = false
        let issued := fun (record : TrapRec) (cs : List StepCmd) =>
          s.part.map.claim m.station = some i → (s.part.port i).queue.length + cs.length ≤ 8 →
          (∀ c ∈ cs, c.action ≠ .opening → (∃ v, s.part.map.valve m.station (m.slotOf c.role) = some v ∧ v.role = .mainline) → alone) →
          ∃ t, exec (.resume tag [n]) s = .next t ∧ t.pending = s.pending ∧ t.part.sameAround s.part ∧
            t.part.repliedSince s.part g .ok [] ∧ t.part.records = s.part.records ∧ t.part.attr = s.part.attr ∧
            t.part.run.reservations = s.part.run.reservations ∧ t.part.run.pigs.map Pig.tracked = s.part.run.pigs.map Pig.tracked ∧
            t.part.Stepped s.part n.toNat i record (cs.map fun c =>
              s.part.queuedCmd m.station (m.slotOf c.role) c.action
                (if c.action = .throttle then some (max 10 (min m.throttle 90)) else none) (.sequence n.toNat) i)
        (∀ x, x = .opening ∨ x = .diverting ∨ x = .restoring → r.step = some x → (∀ c ∈ r.cmds, c.cond = .complete) →
          judged x (timed x)) ∧
        (∀ x, x = .equalising ∨ x = .opening ∨ x = .diverting ∨ x = .restoring → r.step = some x →
          let opened := r.cmds.any fun c => c.role == .mainline && c.cond == .complete
          let due := r.cmds.filter fun c =>
            (c.cond == .notIssued || c.cond == .failed) && (x != .restoring || opened || c.role == .mainline)
          due ≠ [] → (r.cmds.map fun c => m.slotOf c.role).Nodup →
          issued { again x (timed x) r with cmds := r.cmds.map fun c => if c ∈ due then { c with cond := .placed } else c } due) ∧
        (r.step = some .driving → r.holding = none → judged .driving none) ∧
        (∀ (h : HeldPig) (e : Nat × Nat) (cond : StepCond), r.step = some .driving → r.holding = some h →
          s.part.map.launcherEnd (s.part.map.trapCoord n.toNat) = some e → OrderedPigs s.part.run.pigs →
          r.cmds = [{ role := .mainline, action := .throttle, cond := cond }] →
          let V := s.part.map.trapCoord n.toNat
          let close := ∃ x ∈ s.part.run.pigs, x.legEnd = e.1 ∧ V ≤ x.P ∧ x.P < V + s.part.tuning.smin
          let drives := again .driving (some (s.part.after (m.driveTimeout * 1000)))
          (cond = .notIssued → close →
            exec (.resume tag [n]) s = .next (s.become
              ({ s.part with traps := Table.modify s.part.traps n.toNat fun y => { drives y with hold := .separation } }.onlyReplies
                l g .ok []))) ∧
          (cond = .notIssued ∧ ¬close ∨ cond = .failed →
            issued { drives r with cmds := [{ role := .mainline, action := .throttle, cond := .placed }] } r.cmds)) ∧
        (r.step = some .waiting → r.holding = none → s.part.awaited n.toNat ≠ [] →
          exec (.resume tag [n]) s = .next (s.become
            ({ s.part with
              traps := Table.modify s.part.traps n.toNat fun y => y.inStep .waiting none .none []
              run := { s.part.run with pigs := s.part.run.pigs.map fun (y : Pig) =>
                if y.legEnd = n.toNat ∧ y.P = s.part.map.trapCoord n.toNat then { y with blocked := false } else y } }.onlyReplies
              l g .ok []))) ∧
        (r.step = some .waiting → r.holding = none → s.part.awaited n.toNat = [] →
          issued
            { r.inStep .restoring none .none
                [{ role := .mainline, action := .opening, cond := .placed }, { role := .flow, action := .closing, cond := .notIssued },
                 { role := .barrel, action := .closing, cond := .notIssued },
                 { role := .equalise, action := .closing, cond := .notIssued }] with
              result := some .noPig }
            [{ role := .mainline, action := .opening, cond := .notIssued }])))

/-- The deadlines of the sequences and of the commands. Time runs on to the deadline; a sequence in the step faults with the step's own
reason, its step and holding kept and its QUEUED and held commands withdrawn; a host command on a valve that no trap names ends VALVE
TIMEOUT. With no such deadline, a trap whose deadline is none among them, nothing changes (R105, R106, R112, R118, R137, R138). That time
runs on to the deadline is the model's choice (log entry 2), and that VALVE FAILED carries the station in its station field and the slot
first in its detail is its reading (log entry 17). -/
def Obligations.DeadlinesExpire : Prop :=
  (∀ (n : Nat) (m : Trap) (r : TrapRec) (d : Tick) (s : State), s.part.running = true →
    Table.get s.part.map.traps n = some m → Table.get s.part.traps n = some r → r.deadline = some d →
    let p := s.part.elapseTo d
    let faults := fun (c : Instr) (reason : Reason) (slot : Option Nat) =>
      ∃ t x, exec c s = .next t ∧ t.pending = s.pending ∧ Table.get t.part.traps n = some x ∧ x.state = .fault ∧
        x.step = r.step ∧ x.holding = r.holding ∧ x.target = r.target ∧ x.abort = r.abort ∧ x.hold = .none ∧ x.deadline = none ∧
        x.lastFault = some { reason := reason, step := r.step, slot := slot, time := p.stamp } ∧
        t.part.clocks = p.clocks ∧ t.part.run = s.part.run ∧ t.part.lineMap = s.part.lineMap ∧ t.part.meters = s.part.meters ∧
        t.part.attr = s.part.attr ∧ t.part.records = s.part.records ∧ t.part.out = s.part.out ∧
        (∀ c ∈ t.part.cmds.cmds, c.origin = .sequence n → c.sent = true) ∧ (∀ h ∈ t.part.cmds.held, h.trap ≠ n) ∧
        t.part.link = s.part.link.queue
          { kind := .sequenceFault, time := p.stamp, pig := (r.holding.map (·.id)).or r.target, station := some m.station,
            trap := some n, detail := [.val 1 reason.code, .opt 1 (r.step.map TrapState.code), .opt 1 slot] }
    (r.state = .equalising → faults (.equaliseTimeout n) .equaliseTimeout none) ∧
    (r.state = .driving → r.hold = .separation → faults (.driveTimeout n) .separationTimeout none) ∧
    (r.state = .driving → r.hold = .interlock → faults (.driveTimeout n) .interlockTimeout (some m.mainline)) ∧
    (r.state = .driving → r.hold = .none ∨ r.hold = .portSpace → faults (.driveTimeout n) .noLaunch none) ∧
    (r.state = .diverting → r.hold = .interlock → faults (.divertingTimeout n) .interlockTimeout (some m.mainline)) ∧
    (r.state = .diverting → r.hold ≠ .interlock → faults (.divertingTimeout n) .valveTimeout (some m.mainline)) ∧
    (r.state ≠ .equalising → exec (.equaliseTimeout n) s = .next s) ∧
    (r.state ≠ .driving → exec (.driveTimeout n) s = .next s) ∧
    (r.state ≠ .diverting → exec (.divertingTimeout n) s = .next s)) ∧
  (∀ (n : Nat) (s : State), (∀ r, Table.get s.part.traps n = some r → r.deadline = none) →
    exec (.equaliseTimeout n) s = .next s ∧ exec (.driveTimeout n) s = .next s ∧ exec (.divertingTimeout n) s = .next s) ∧
  (∀ (station slot : Nat) (s : State), s.part.running = true →
    (s.part.cmds.find station slot = none → exec (.valveTimeout station slot) s = .next s) ∧
    (∀ c, s.part.cmds.find station slot = some c → c.origin = .host → s.part.cmds.held = [] → s.part.Unnamed station slot →
      let v := Table.get s.part.cmds.valves (station * 256 + slot)
      let clocks := s.part.clocks.elapseTo c.deadline
      exec (.valveTimeout station slot) s = .next (s.become { s.part with
        clocks := clocks
        cmds := { s.part.cmds with cmds := s.part.cmds.cmds.filter fun x => !(x.station == station && x.slot == slot) }
        ports := { s.part.ports with port := s.part.ports.port.modify c.port fun q =>
          { q with queue := q.queue.filter (· != (station, slot)) } }
        link := s.part.link.queue
          { kind := .valveFailed, time := { secs := clocks.secs, set := clocks.set }, pig := none, station := some station,
            trap := none
            detail := [.val 1 slot, .val 1 c.action.code, .val 1 c.cls.code, .val 1 1, .opt 1 (v.bind (·.position)),
              .opt 1 ((v.bind (·.state)).map ValveState.code)] } })))

/-- Barrel trips. At a DRIVING launcher the held pig enters the line at the launcher, behind every pig at or ahead of it, and its
reservation goes; at a WAITING receiver the head of its list leaves the table and every list for the holding; a trip at a launcher that
holds no pig is a stray passage and no more (R50, R51, R107, R114). An entry of a report's trap part brings them: its counter becomes
the baseline, and each count by which it rose is one barrel trip, carried through before the next; none in SETUP, without a baseline or
after a jump above 128, which is reported; the barrel shown equalised in EQUALISING is remembered, which is the model's choice (log entry
33); an entry for a trap of another station is reported and discarded, the index first in the notice's detail and no trap in its trap
field, which is the model's choice (log entry 50; R105, R109). -/
def Obligations.BarrelTripsMoveThePigs : Prop :=
  (∀ (p : Part) (x t : Nat) (counter : Byte) (r : TrapRec) (m : Trap), Table.get p.traps t = some r →
    Table.get p.map.traps t = some m →
    let q := p.trapEntry x (t, counter, false)
    let based : Part := { p with traps := Table.modify p.traps t fun y => { y with barrel := some counter } }
    let told := fun (z : Part) (kind : NoticeKind) (trap : Option Nat) (detail : List Field) => { z with
      link := z.link.queue { kind := kind, time := p.stamp, pig := none, station := some x, trap := trap, detail := detail } }
    (m.station ≠ x → q = told p .trapNotInMap none [.val 1 t]) ∧
    (m.station = x → r.barrel = none ∨ p.link.mode = .setup → q = based) ∧
    (∀ old, m.station = x → r.barrel = some old → p.link.mode ≠ .setup →
      let n := (counter - old).toNat
      (128 < n → q = told based .detectorDiscontinuity (some t) [.val 1 old.toNat, .val 1 counter.toNat]) ∧
      (n ≤ 128 → q = Nat.repeat (fun z : Part => z.barrelTrip t) n based)) ∧
    (m.station = x → r.state ≠ .equalising → p.trapEntry x (t, counter, true) = q) ∧
    (m.station = x → r.state = .equalising → (∃ c ∈ r.cmds, c.cond ≠ .complete) → r.barrel = none →
      p.trapEntry x (t, counter, true) =
        { p with traps := Table.modify p.traps t fun y => { y with eqSeen := true, barrel := some counter } }) ∧
    (m.station = x → r.state = .equalising → (∀ c ∈ r.cmds, c.cond = .complete) → r.barrel = none →
      ∃ z, Table.get (p.trapEntry x (t, counter, true)).traps t = some z ∧ z.step = some .opening ∧ z.eqSeen = true ∧
        z.barrel = some counter)) ∧
  (∀ (p : Part) (x t : Nat) (counter : Byte) (equalised : Bool), Table.get p.map.traps t = none →
    p.trapEntry x (t, counter, equalised) = { p with
      link := p.link.queue { kind := .trapNotInMap, time := p.stamp, pig := none, station := some x, trap := none
                             detail := [.val 1 t] } }) ∧
  ∀ (p : Part) (n : Nat) (m : Trap) (r : TrapRec),
    Table.get p.map.traps n = some m → Table.get p.traps n = some r → OrderedPigs p.run.pigs →
    let q := p.barrelTrip n
    (∀ (h : HeldPig) (e : Nat × Nat), m.role = .launcher → r.state = .driving → r.step = some .driving → r.holding = some h →
      p.map.launcherEnd (p.map.trapCoord n) = some e → (∀ g ∈ p.run.pigs, g.id ≠ h.id) →
      let V := p.map.trapCoord n
      (∃ front rear, p.run.pigs = front ++ rear ∧ (∀ a ∈ front, V ≤ a.P) ∧ (∀ b ∈ rear, b.P < V) ∧
        q.run.pigs.map Pig.tracked = front.map Pig.tracked ++ (h.id, V, 0, 0, h.slip, 0) :: rear.map Pig.tracked) ∧
      (∃ g ∈ q.run.pigs, g.id = h.id ∧ g.tag = h.tag ∧ g.kind = h.kind ∧ g.fixAt = V ∧ g.fixPoint = .trap n ∧ g.legEnd = e.1 ∧
        g.seq = p.run.nextSeq) ∧
      q.run.reservations = p.run.reservations.filter (· != n) ∧
      (∃ x, Table.get q.traps n = some x ∧ x.holding = none ∧ x.launched = some h.id) ∧
      (Table.has p.attr.receivers e.1 = true → h.id ∈ q.awaited e.1)) ∧
    (∀ (g : Pig) (front rear : List Pig) (rest : List Nat), m.role = .receiver → r.state = .waiting → r.holding = none →
      p.awaited n = g.id :: rest → p.run.pigs = front ++ g :: rear →
      q.run.pigs.map (·.id) = (front ++ rear).map (·.id) ∧ OrderedPigs q.run.pigs ∧
      (∃ x, Table.get q.traps n = some x ∧ x.holding = some { id := g.id, tag := g.tag, kind := g.kind, slip := g.slip } ∧
        x.result = some .received ∧ x.target = none) ∧
      (∀ u, g.id ∉ q.expected u ∧ g.id ∉ q.unobserved u ∧ g.id ∉ q.awaited u)) ∧
    (m.role = .launcher → r.holding = none →
      q = { p with
        link := p.link.queue
          { kind := .strayPassage, time := p.stamp, pig := none, station := some m.station, trap := some n, detail := [] } })

/-! ## Station commands and section ports (chapters 7 and 8) -/

/-- A NORMAL VALVE from the host for a valve of the map, in TRACKING or FROZEN, is refused at the first of its tests that fails: claim,
valve in motion, trap in sequence, interlock, table, queue; otherwise its record stands QUEUED last in the claiming port's queue with the
valve's stroke as its deadline, and nothing else changes (R127 to R130, R132, R133). In SETUP it is refused MODE. An ESD VALVE, in every
mode, is refused NO SUCH without a claiming port, FULL only when the valve has no command of its own, and PORT BUSY only when the queue
holds no NORMAL command to displace; otherwise it stands behind the ESD commands and ahead of the NORMAL ones, the command it supersedes
has ended SUPERSEDED and the one it displaces PORT BUSY, a pig near a mainline valve it closes is reported FORCED CLOSE NEAR PIG, the
reply carries both flags, and the sequences in progress that hold the valve fault VALVE OVERRIDDEN (R119, R127, R129, R132, R133). The
order of those outcomes, the layouts of the replies and of the notices, and MODE before RANGE for a NORMAL VALVE in SETUP are the model's
reading (log entries 20, 16, 17 and 28). -/
def Obligations.ValveIsTestedAndPlaced : Prop :=
  (∀ (tag x slot code target : Byte) (l : Link) (s : State), s.part.link.mode = .setup →
    let f := requestFrame 0x50 tag [x, slot, code, target, 0]
    s.part.turnOf f l →
      exec (.valve tag [x, slot, code, target, 0]) s = .next (s.become (s.part.onlyReplies l f .mode []))) ∧
  (∀ (tag x slot target : Byte) (action : Action) (v : Valve) (l : Link) (s : State),
    1 ≤ x.toNat → x.toNat ≤ 64 → 1 ≤ slot.toNat → slot.toNat ≤ 6 → (action = .throttle → target.toNat ≤ 100) →
    Table.get s.part.map.valves (x.toNat * 256 + slot.toNat) = some v →
    let body := [x, slot, BitVec.ofNat 8 action.code, target, 1]
    let f := requestFrame 0x50 tag body
    let given := if action = .throttle then some (max 10 (min target.toNat 90)) else none
    let near := if action ≠ .opening ∧ v.role = .mainline then s.part.run.pigs.filter (s.part.near x.toNat) else []
    let refused := fun (c : ReplyCode) =>
      exec (.valve tag body) s = .next (s.become (s.part.onlyReplies l f c []))
    let now : Stamp := { secs := s.part.clocks.secs, set := s.part.clocks.set }
    let forced := fun (k : Link) =>
      match near with
      | [] => k
      | g :: _ => k.queue { kind := .forcedCloseNearPig, time := now, pig := some g.id, station := some x.toNat, trap := none
                            detail := [.val 1 slot.toNat, .val 4 near.length] }
    let old := s.part.cmds.find x.toNat slot.toNat
    let flags := (if old.isSome then 1 else 0) + (if near.isEmpty then 0 else 2)
    s.part.turnOf f l →
      (s.part.map.claim x.toNat = none → refused .noSuch) ∧
      (∀ i, s.part.map.claim x.toNat = some i →
        let record : Cmd :=
          { station := x.toNat, slot := slot.toNat, action := action, target := given, cls := .esd, origin := .host, port := i
            sent := false, acked := false, placed := s.part.clocks.tick
            deadline := s.part.clocks.tick + BitVec.ofNat 32 (v.stroke * 1000) }
        let isEsd := fun (y : Nat × Nat) => (s.part.cmds.find y.1 y.2).any fun c => c.cls == .esd
        let queue := (s.part.port i).queue.filter (· != (x.toNat, slot.toNat))
        let joined := fun (q : List (Nat × Nat)) => q.takeWhile isEsd ++ (x.toNat, slot.toNat) :: q.dropWhile isEsd
        let placed := fun (cmds : List Cmd) (q : List (Nat × Nat)) (k : Link) =>
          exec (.valve tag body) s = .next (s.become
            ({ s.part with
                cmds := { s.part.cmds with cmds := cmds ++ [record] }
                ports := { s.part.ports with port := s.part.ports.port.modify i fun y => { y with queue := joined q } } }.onlyReplies
              (forced k) f .ok [.opt 1 given, .val 1 i.val, .val 1 flags]))
        let free := s.part.Unnamed x.toNat slot.toNat
        (old = none → 24 ≤ s.part.cmds.cmds.length → refused .full) ∧
        (old.isSome = true ∨ s.part.cmds.cmds.length < 24 → 8 ≤ queue.length → (∀ y ∈ queue, isEsd y = true) → refused .portBusy) ∧
        (old = none → queue = (s.part.port i).queue → s.part.cmds.cmds.length < 24 → queue.length < 8 → free → placed s.part.cmds.cmds queue l) ∧
        (∀ c, old = some c → c.origin = .host → c.port = i → queue.length < 8 → s.part.cmds.held = [] → free →
          placed (s.part.cmds.without x.toNat slot.toNat) queue (l.queue (s.part.failedNotice c 6))) ∧
        (∀ (front : List (Nat × Nat)) (c : Cmd), old = none → queue = (s.part.port i).queue → s.part.cmds.cmds.length < 24 → queue.length = 8 →
          queue = front ++ [(c.station, c.slot)] → s.part.cmds.find c.station c.slot = some c → c.cls = .normal → c.origin = .host →
          c.port = i → c.sent = false → (c.station, c.slot) ∉ front → s.part.cmds.held = [] → free →
          s.part.Unnamed c.station c.slot →
          placed (s.part.cmds.without c.station c.slot) front (l.queue (s.part.failedNotice c 8))) ∧
        (old = none ∨ (∃ c, old = some c ∧ c.origin = .host) → old.isSome = true ∨ s.part.cmds.cmds.length < 24 → queue.length < 8 →
          ∃ t, exec (.valve tag body) s = .next t ∧ t.part.repliedSince s.part f .ok [.opt 1 given, .val 1 i.val, .val 1 flags] ∧
            ∀ e ∈ s.part.map.traps, e.2.station = x.toNat → slot.toNat ∈ e.2.slots → (s.part.trapState e.1).inProgress = true →
              ∃ y z, Table.get t.part.traps e.1 = some y ∧ y.state = .fault ∧ y.lastFault = some z ∧ z.reason = .valveOverridden ∧
                z.slot = some slot.toNat))) ∧
  ∀ (tag x slot target : Byte) (action : Action) (v : Valve) (l : Link) (s : State),
    1 ≤ x.toNat → x.toNat ≤ 64 → 1 ≤ slot.toNat → slot.toNat ≤ 6 → (action = .throttle → target.toNat ≤ 100) →
    s.part.link.mode ≠ .setup → Table.get s.part.map.valves (x.toNat * 256 + slot.toNat) = some v →
    let body := [x, slot, BitVec.ofNat 8 action.code, target, 0]
    let f := requestFrame 0x50 tag body
    let given := if action = .throttle then some (max 10 (min target.toNat 90)) else none
    let near := if action ≠ .opening ∧ v.role = .mainline then s.part.run.pigs.filter (s.part.near x.toNat) else []
    let refused := fun (c : ReplyCode) (fs : List Field) =>
      exec (.valve tag body) s = .next (s.become (s.part.onlyReplies l f c fs))
    let moving := ∃ c ∈ s.part.cmds.cmds, c.station = x.toNat ∧ c.slot = slot.toNat
    let sequenced := ∃ e ∈ s.part.map.traps, e.2.station = x.toNat ∧ slot.toNat ∈ e.2.slots ∧ (s.part.trapState e.1).inProgress = true
    s.part.turnOf f l →
      (s.part.map.claim x.toNat = none → refused .noSuch []) ∧
      (∀ i, s.part.map.claim x.toNat = some i →
        (moving → refused .valveBusy []) ∧
        (¬moving → sequenced → refused .trapBusy []) ∧
        (∀ g rest, ¬moving → ¬sequenced → near = g :: rest → refused .pigNear [.val 2 g.id, .val 1 x.toNat]) ∧
        (¬moving → ¬sequenced → near = [] → 24 ≤ s.part.cmds.cmds.length → refused .full []) ∧
        (¬moving → ¬sequenced → near = [] → s.part.cmds.cmds.length < 24 → (x.toNat, slot.toNat) ∉ (s.part.port i).queue →
          (8 ≤ (s.part.port i).queue.length → refused .portBusy []) ∧
          ((s.part.port i).queue.length < 8 →
            exec (.valve tag body) s = .next (s.become
              ({ s.part with
                  cmds := { s.part.cmds with
                    cmds := s.part.cmds.cmds ++
                      [({ station := x.toNat, slot := slot.toNat, action := action, target := given, cls := .normal,
                          origin := .host, port := i, sent := false, acked := false, placed := s.part.clocks.tick
                          deadline := s.part.clocks.tick + BitVec.ofNat 32 (v.stroke * 1000) } : Cmd)] }
                  ports := { s.part.ports with port := s.part.ports.port.modify i fun q =>
                    { q with queue := q.queue ++ [(x.toNat, slot.toNat)] } } }.onlyReplies l f .ok
                [.opt 1 given, .val 1 i.val, .val 1 0])))))

/-- What a port does when its poll gap has run: it sends a failed frame again; else the front command of its queue, which becomes SENT;
else, when a watched poll is due, it polls the next station of the watch set after the last one watched, and with none watched, or no
watched poll due, the station at its cycle position, and moves on; the end of its transmission leaves the frame on the line, whole, and
starts the reply deadline (R135, R145 to R147). At sending, a NORMAL CLOSE or THROTTLE of a MAINLINE valve is tested against the pigs near:
with none near it is sent; otherwise a host command ends VALVE FAILED with PIG NEAR and names the front-most, a sequence command is held
for the interlock, and the port goes on to poll (R132, R135). That time runs on to the gap's end, the record of the frames sent, and the
layout of VALVE FAILED are the model's choices (log entries 2, 4 and 17). -/
def Obligations.PortTakesItsTurns : Prop :=
  ∀ (i : Fin 4) (s : State), s.part.running = true →
    let r := s.part.port i
    let sends := fun (d : Tick) (t : Txn) (r' : PortRec) (cmds : CmdTable) =>
      exec (.pollGapExpiry i) s = .next (s.become { s.part with
        clocks := s.part.clocks.elapseTo d, cmds := cmds
        ports := { s.part.ports with port := s.part.ports.port.set i { r' with
          gap := none, txn := some { t with parts := [], partCount := 0, phase := .sending } } } })
    let m := s.part.map
    let roster := (s.part.rosterOf i).stations
    let poll := fun (x : Nat) (ordinary : Bool) =>
      ({ sentKind := .poll, station := x, slot := none, ordinary := ordinary, attempt := 0, parts := [], partCount := 0, phase := .sending
         frame := { station := BitVec.ofNat 8 x, kind := 0x01, part := 0x11, body := [] } } : Txn)
    let moved : PortRec := { r with cycle := (r.cycle + 1) % roster.length, watchDue := false }
    let comes := fun (ids : List Nat) (v : Nat) => ∃ id ∈ ids, ∃ g, s.part.pig id = some g ∧
      v ≤ g.P + min s.part.tuning.umax (s.part.tuning.u0 + g.M * s.part.tuning.q / 10000)
    let watched := fun (x : Nat) => s.part.isSilent x = false ∧
      (comes (s.part.expected x) (m.stationCoord x) ∨
        ∃ e ∈ m.traps, e.2.station = x ∧ ((s.part.trapState e.1).inProgress = true ∨
          (e.2.role = .receiver ∧ comes (s.part.awaited e.1) (m.trapCoord e.1))))
    let stops := fun (c : Cmd) (g : Pig) => c.cls = .normal ∧ c.action ≠ .opening ∧
      (∃ v, m.valve c.station c.slot = some v ∧ v.role = .mainline) ∧ s.part.originPig c.origin ≠ some g.id ∧
        s.part.near c.station g = true
    (∀ d t, r.gap = some d → r.txn = some t → t.phase = .retryDue →
      sends d { t with attempt := t.attempt + 1 } r s.part.cmds) ∧
    (∀ d v rest c, r.gap = some d → r.txn = none → r.queue = v :: rest → s.part.cmds.find v.1 v.2 = some c →
      (∀ g ∈ s.part.run.pigs, ¬stops c g) → s.part.cmds.held = [] →
      sends d
        { sentKind := .command, station := c.station, slot := some c.slot, ordinary := false, attempt := 0, parts := [],
          partCount := 0, phase := .sending
          frame := { station := BitVec.ofNat 8 c.station, kind := 0x02, part := 0x11
                     body := [BitVec.ofNat 8 c.slot, BitVec.ofNat 8 c.action.code, BitVec.ofNat 8 (c.target.getD 0)] } }
        { r with queue := r.queue.filter (· != v) }
        { s.part.cmds with
          cmds := (s.part.cmds.cmds.filter fun y => !(y.station == c.station && y.slot == c.slot)) ++
            [{ c with sent := true, acked := false }] }) ∧
    (∀ (d : Tick) (c : Cmd) (g : Pig) (x : Nat) (front rear : List Pig), r.gap = some d → r.txn = none →
      r.queue = [(c.station, c.slot)] → s.part.cmds.find c.station c.slot = some c → c.port = i → s.part.cmds.held = [] →
      s.part.run.pigs = front ++ g :: rear → (∀ a ∈ front, ¬stops c a) → stops c g → r.watchDue = false → roster[r.cycle]? = some x →
      let turned := fun (p : Part) => exec (.pollGapExpiry i) s = .next (s.become { p with
        clocks := s.part.clocks.elapseTo d
        ports := { s.part.ports with port := s.part.ports.port.set i { moved with
          queue := [], gap := none, txn := some (poll x true) } } })
      (c.origin = .host → s.part.Unnamed c.station c.slot →
        turned { s.part with
          cmds := { s.part.cmds with cmds := s.part.cmds.without c.station c.slot }
          link := s.part.link.queue { (s.part.elapseTo d).failedNotice c 7 with pig := some g.id } }) ∧
      (∀ n k, c.origin = .sequence n → Table.get m.traps n = some k →
        turned { s.part with
          cmds := { s.part.cmds with
            cmds := s.part.cmds.without c.station c.slot
            held := [{ trap := n, station := c.station, slot := c.slot, action := c.action, target := c.target, cause := .interlock }] }
          traps := Table.modify s.part.traps n fun y => { y with
            hold := .interlock
            cmds := y.cmds.map fun w =>
              if k.slotOf w.role = c.slot ∧ w.action = c.action then ({ w with cond := .held } : StepCmd) else w } })) ∧
    (∀ d x, r.gap = some d → r.txn = none → r.queue = [] → roster[r.cycle]? = some x →
      r.watchDue = false ∨ (∀ y ∈ roster, ¬watched y) → sends d (poll x true) moved s.part.cmds) ∧
    (∀ (d : Tick) (x : Nat) (order skip rest : List Nat), r.gap = some d → r.txn = none → r.queue = [] → r.watchDue = true →
      (r.watchPtr = none ∧ order = roster) ∨
        (∃ y before after, r.watchPtr = some y ∧ roster = before ++ y :: after ∧ y ∉ before ∧ y ∉ after ∧
          order = after ++ before ++ [y]) →
      order = skip ++ x :: rest → (∀ y ∈ skip, ¬watched y) → watched x →
      sends d (poll x false) { r with watchDue := false, watchPtr := some x } s.part.cmds) ∧
    (∀ t, r.txn = some t → t.phase = .sending →
      exec (.sectionTransmitDone i) s = .next (s.become { s.part with
        out := { s.part.out with lines := s.part.out.lines ++ [{ port := i, frame := t.frame, whole := true }] }
        ports := { s.part.ports with port := s.part.ports.port.set i { r with
          txn := some { t with phase := .awaiting (s.part.clocks.tick + BitVec.ofNat 32 (s.part.rosterOf i).replyTimeout) } } } }))

/-- A failed attempt, by an expired deadline, a bad frame or a gap between bytes: it is recorded; below the limit a retry is due after
the poll gap, the parts taken discarded; at the limit the transaction ends and a station not yet SILENT becomes SILENT with its meters,
and the pigs held on its list pass it unobserved (R33, R84, R85, R148 to R151, R155). With no pig on its list and no entry held, every
SENT or QUEUED command for it ends LINK FAILED, the transaction's own first, then the SENT ones in order of sending, then those QUEUED in
queue order: those of a sequence are FAILED, none withdrawn, and the sequence faults once, over the first; each of the host's has its
notice (R104, R118, R137, R138, R149). A SILENT station is given no retry: a poll of it that fails ends the transaction and no more, and
a host command so failed ends LINK FAILED (R137, R150). Left out: several sequences' commands for one station. That time runs on to the
reply deadline, that a gap between bytes takes no time, and the layout of the notices are the model's choices (log entries 2, 13 and 17);
that the fault withdraws none of the commands that end with the first is its reading (log entry 51). -/
def Obligations.FailedAttemptsAreRetried : Prop :=
  ∀ (i : Fin 4) (t : Txn) (d : Tick) (bytes : List Byte) (s : State), s.part.running = true → s.part.Awaiting i t d →
    let fails := fun (c : Instr) (kind : FailKind) (p : Part) =>
      (s.part.isSilent t.station = false → t.attempt < (s.part.rosterOf i).retryLimit →
        exec c s = .next (s.become { p with ports := { p.ports with port := p.ports.port.set i { s.part.port i with
          txn := some { t with parts := [], partCount := 0, phase := .retryDue }
          gap := some (p.clocks.tick + BitVec.ofNat 32 (s.part.rosterOf i).pollGap)
          lastFailure := some { station := t.station, kind := kind, frame := t.sentKind, attempt := t.attempt,
                                time := p.stamp } } } })) ∧
      (s.part.isSilent t.station = false → (s.part.rosterOf i).retryLimit ≤ t.attempt →
        ∃ u, exec c s = .next u ∧ u.pending = s.pending ∧ (u.part.port i).txn = none ∧
          (u.part.port i).lastFailure =
            some { station := t.station, kind := kind, frame := t.sentKind, attempt := t.attempt, time := p.stamp } ∧
          u.part.clocks = p.clocks ∧ u.part.lineMap = s.part.lineMap ∧
          (Table.has s.part.ports.stations t.station = true → u.part.live t.station = .silent) ∧
          (∀ x, x ≠ t.station → u.part.live x = s.part.live x) ∧
          (∀ n m, Table.get s.part.map.meters n = some m → m.station = t.station →
            Table.has s.part.meters.meters n = true → u.part.health n = .silent) ∧
          (∀ g ∈ s.part.run.pigs, g.id ∈ s.part.expected t.station → (s.part.run.pigs.map (·.id)).Nodup →
            Table.has s.part.ports.stations t.station = true → s.part.map.stationCoord t.station ≤ g.P →
            g.id ∉ u.part.expected t.station ∧ g.id ∈ u.part.unobserved t.station)) ∧
      (∀ (k : Nat) (m : Trap) (r : TrapRec) (first : Cmd), s.part.isSilent t.station = false →
        (s.part.rosterOf i).retryLimit ≤ t.attempt → s.part.expected t.station = [] →
        s.part.EndableTogether i (fun x => x.station == t.station) k m r →
        let own := (t.slot.bind fun n => s.part.cmds.find t.station n).toList.filter fun x => x.sent
        let gone := own ++ (s.part.cmds.cmds.filter fun x => x.sent && x.station == t.station && !own.contains x) ++
          ((s.part.port i).queue.filterMap fun v => s.part.cmds.find v.1 v.2).filter fun x => x.station == t.station
        gone.find? (fun x => decide (x.origin = .sequence k)) = some first →
        ∃ u, exec c s = .next u ∧ u.pending = s.pending ∧
          u.part.EndedTogether p (fun x => x.station == t.station) k m r .linkFailed first gone ∧
          ((∀ e ∈ s.part.map.meters, e.2.station ≠ t.station) →
            u.part.link = p.endingNotices k m r .linkFailed first gone (s.part.link.queue
              { kind := .stationSilent, time := p.stamp, pig := none, station := some t.station, trap := none
                detail := [.val 1 i.val, .val 1 kind.code] }))) ∧
      (s.part.isSilent t.station = true →
        let ended : Part := { p with ports := { p.ports with port := p.ports.port.set i { s.part.port i with
          txn := none, watchDue := (s.part.port i).watchDue || t.ordinary
          gap := some (p.clocks.tick + BitVec.ofNat 32 (s.part.rosterOf i).pollGap)
          lastFailure := some { station := t.station, kind := kind, frame := t.sentKind, attempt := t.attempt,
                                time := p.stamp } } } }
        (t.slot = none → exec c s = .next (s.become ended)) ∧
        (∀ slot k, t.slot = some slot → s.part.cmds.find t.station slot = some k → k.sent = true → k.origin = .host → k.port = i →
          s.part.cmds.held = [] → s.part.Unnamed t.station slot → (t.station, slot) ∉ (s.part.port i).queue →
          exec c s = .next (s.become { ended with
            cmds := { s.part.cmds with cmds := s.part.cmds.without t.station slot }
            link := s.part.link.queue (p.failedNotice k 4) })))
    (t.parts = [] → fails (.replyTimeout i) .noReply (s.part.elapseTo d)) ∧
    (t.parts ≠ [] → fails (.replyTimeout i) .partMissing (s.part.elapseTo d)) ∧
    (checkFrame bytes = none → fails (.badFrame i bytes) .badFrame s.part) ∧
    fails (.sectionByteGap i) .badFrame s.part

/-- The answers of a station. A whole report ends the poll, makes the station ALIVE, and its parts are handed on in their order, detector,
meters, valves, traps; a report in 2 or 3 frames is put together in their order, the deadline afresh at each, and taken at the last; a
frame out of its order, or of another number of frames, loses the report, and bytes that do not read as one are a bad frame (R148, R149,
R151, R153). The ACK of a command marks it acknowledged with its deadline afresh; the NAK ends it VALVE REJECTED: a host command on a valve
that no trap names with its notice, a sequence's command by faulting the sequence (R104, R118, R135, R145). A good reply from a SILENT
station, a report, an ACK or a NAK, makes it ALIVE with notice STATION RECOVERED, its SILENT meters UNBASELINED, and its next report its
recovery report (R33, R86, R144, R150). An entry of a report's valve part sets the valve's record, and ends a command that is SENT and
acknowledged: FAULT ends it VALVE FAULT, LOCAL ends it VALVE REJECTED, a position that its action has reached completes it, with VALVE
DONE for a host command; an entry for a valve that the map does not have is reported (R136, R138, R152). Left out: what a completed
command that is its step's last brings on (AbortAndResume says that), a failed attempt at its limit and a report lost by a SILENT station
(FailedAttemptsAreRetried), held entries offered at a command's end. That an ACK or NAK with any body is taken, and the layout of these
notices, are the model's reading (log entries 36 and 17). -/
def Obligations.AnswersAreTaken : Prop :=
  let handed := fun (x : Nat) (r : Report) (p : Part) =>
    let detector :=
      match r.detector with
      | none => p
      | some d => p.detectorPart x d.1 d.2.1 d.2.2
    let meters := (r.meters.getD []).foldl (Part.meterEntry detector.meters.meters x) detector
    let valves := (r.valves.getD []).foldl (Part.valveEntry x r.coded) meters
    (r.traps.getD []).foldl (Part.trapEntry x) valves
  let report := fun (x : Byte) (part : Nat) (body : List Byte) =>
    SecFrame.bytes { station := x, kind := 0x11, part := BitVec.ofNat 8 part, body := body }
  (∀ (i : Fin 4) (t : Txn) (d : Tick) (x : Byte) (since : Stamp) (y0 : StationLive) (s : State),
    s.part.running = true → s.part.Awaiting i t d → t.station = x.toNat →
    s.part.isSilent x.toNat = true → Table.get s.part.ports.stations x.toNat = some y0 → y0.declaredSilent = some since →
    let recovered := s.part.link.queue
      { kind := .stationRecovered, time := { secs := s.part.clocks.secs, set := s.part.clocks.set }, pig := none
        station := some x.toNat, trap := none, detail := [.val 1 i.val, .val 4 (s.part.clocks.secs - since.secs).toNat] }
    let back := fun (u : State) =>
      u.pending = s.pending ∧ u.part.clocks = s.part.clocks ∧ (u.part.port i).txn = none ∧
      Table.get u.part.ports.stations x.toNat = some { y0 with
        live := .alive, lastGood := some { secs := s.part.clocks.secs, set := s.part.clocks.set } } ∧
      (∀ z, z ≠ x.toNat → Table.get u.part.ports.stations z = Table.get s.part.ports.stations z) ∧
      recovered.notices <+: u.part.link.notices ∧
      (∀ n m r, Table.get s.part.map.meters n = some m → m.station = x.toNat → Table.get s.part.meters.meters n = some r →
        u.part.health n = if r.health = .silent then .unbaselined else r.health) ∧
      (∀ a, Table.get s.part.attr.stations x.toNat = some a →
        Table.get u.part.attr.stations x.toNat = some { a with recovery := true }) ∧
      u.part.run.pigs.map Pig.tracked = s.part.run.pigs.map Pig.tracked ∧ u.part.traps = s.part.traps ∧
      u.part.records = s.part.records
    (∀ body r, t.sentKind = .poll → t.parts = [] → body.length ≤ 200 → readReport body = some r →
      ∃ u, exec (.report i (report x 0x11 [0])) s = .next u ∧ back u ∧ u.part.cmds = s.part.cmds ∧
        exec (.report i (report x 0x11 body)) s = .next (s.become (handed x.toNat r u.part))) ∧
    (∀ slot body c, t.sentKind = .command → t.slot = some slot → body.length ≤ 200 → s.part.cmds.find x.toNat slot = some c →
      c.sent = true →
      (∃ u, exec (.ack i (SecFrame.bytes { station := x, kind := 0x12, part := 0x11, body := body })) s = .next u ∧ back u ∧
        u.part.cmds = { s.part.cmds with cmds := s.part.cmds.cmds.map fun y =>
          if y.station == x.toNat && y.slot == slot then
            { y with acked := true, deadline := s.part.strokeDeadline x.toNat slot } else y }) ∧
      (c.origin = .host → s.part.cmds.held = [] → s.part.Unnamed x.toNat slot →
        ∃ (u : State) (k : Link), exec (.nak i (SecFrame.bytes { station := x, kind := 0x13, part := 0x11, body := body })) s = .next u ∧ back u ∧
          u.part.cmds = { s.part.cmds with cmds := s.part.cmds.without x.toNat slot } ∧
          recovered.notices <+: k.notices ∧ u.part.link = k.queue (s.part.failedNotice c 3)))) ∧
  (∀ (p : Part) (x : Nat) (coded : Bool) (slot raw : Nat) (state : ValveState),
    let q := Part.valveEntry x coded p { slot := slot, state := state, raw := raw }
    let told := fun (z : Part) (n : Notice) => { z with link := z.link.queue n }
    (Table.get p.map.valves (x * 256 + slot) = none →
      q = told p { kind := .valveNotInMap, time := p.stamp, pig := none, station := some x, trap := none, detail := [.val 1 slot] }) ∧
    (∀ v, Table.get p.map.valves (x * 256 + slot) = some v →
      let position := min (if coded then (p.map.actuators.get v.actuator).getD (raw % 16) 0 else raw) 100
      let heard : Part := { p with cmds := { p.cmds with
        valves := Table.put p.cmds.valves (x * 256 + slot) { position := some position, state := some state, time := some p.stamp } } }
      ((∀ c, p.cmds.find x slot = some c → ¬(c.sent = true ∧ c.acked = true)) → q = heard) ∧
      (∀ c, p.cmds.find x slot = some c → c.sent = true → c.acked = true →
        let reached :=
          match c.action with
          | .opening => 98 ≤ position
          | .closing => position ≤ 2
          | .throttle => ∃ target, c.target = some target ∧ position ≤ target + 3 ∧ target ≤ position + 3
        let gone : Part := { heard with
          cmds := { heard.cmds with cmds := p.cmds.without x slot }
          ports := { p.ports with port := p.ports.port.modify c.port fun y => { y with queue := y.queue.filter (· != (x, slot)) } } }
        (state = .remote → ¬reached → q = heard) ∧
        (c.origin = .host → p.cmds.held = [] → p.Unnamed x slot →
          (state = .fault → q = told gone (heard.failedNotice c 2)) ∧
          (state = .localCtl → q = told gone (heard.failedNotice c 3)) ∧
          (state = .remote → reached →
            q = told gone { kind := .valveDone, time := p.stamp, pig := none, station := some x, trap := none
                            detail := [.val 1 slot, .val 1 c.action.code, .opt 1 c.target, .opt 1 (some position),
                              .val 4 (p.clocks.tick - c.placed).toNat] })) ∧
        (∀ n m r, c.origin = .sequence n → p.cmds.held = [] → p.StepPlaced n m r x slot c.action →
          (state = .fault → q.FaultedBy p n m r .valveFault slot) ∧
          (state = .localCtl → q.FaultedBy p n m r .valveRejected slot) ∧
          (state = .remote → reached → r.state = .equalising ∨ r.state = .opening ∨ r.state = .diverting →
            (∃ w ∈ r.cmds, w.cond ≠ .complete ∧ ¬(m.slotOf w.role = slot ∧ w.action = c.action)) →
            q = { gone with
              traps := Table.modify p.traps n fun y => { y with
                cmds := y.cmds.map fun w =>
                  if m.slotOf w.role = slot ∧ w.action = c.action then ({ w with cond := .complete } : StepCmd) else w } }))))) ∧
  ∀ (i : Fin 4) (t : Txn) (d : Tick) (x : Byte) (s : State),
    s.part.running = true → s.part.Awaiting i t d → t.station = x.toNat → s.part.isSilent x.toNat = false →
    let now : Stamp := { secs := s.part.clocks.secs, set := s.part.clocks.set }
    let good : Part := { s.part with ports :=
      { port := s.part.ports.port.set i { s.part.port i with
          txn := none, watchDue := (s.part.port i).watchDue || t.ordinary
          gap := some (s.part.clocks.tick + BitVec.ofNat 32 (s.part.rosterOf i).pollGap) }
        stations := Table.modify s.part.ports.stations x.toNat fun y => { y with live := .alive, lastGood := some now } } }
    let retries := fun (kind : FailKind) => s.become { s.part with ports := { s.part.ports with
      port := s.part.ports.port.set i { s.part.port i with
        txn := some { t with parts := [], partCount := 0, phase := .retryDue }
        gap := some (s.part.clocks.tick + BitVec.ofNat 32 (s.part.rosterOf i).pollGap)
        lastFailure := some { station := t.station, kind := kind, frame := t.sentKind, attempt := t.attempt, time := now } } } }
    (∀ (body : List Byte) (r : Report), t.sentKind = .poll → t.parts = [] → body.length ≤ 200 → readReport body = some r →
      exec (.report i (report x 0x11 body)) s = .next (s.become (handed x.toNat r good))) ∧
    (t.sentKind = .poll → t.parts = [] → exec (.report i (report x 0x11 [0])) s = .next (s.become good)) ∧
    (∀ (k n : Nat) (body : List Byte), t.sentKind = .poll → n = 2 ∨ n = 3 → 1 ≤ k → k ≤ n → body.length ≤ 200 →
      let takes := fun (o : State) => exec (.report i (report x (16 * k + n) body)) s = .next o
      let inOrder := k = t.parts.length + 1 ∧ (t.parts = [] ∨ t.partCount = n)
      (inOrder → k < n → takes (s.become { s.part with ports := { s.part.ports with
        port := s.part.ports.port.set i { s.part.port i with txn := some { t with
          parts := t.parts ++ [body], partCount := n
          phase := .awaiting (s.part.clocks.tick + BitVec.ofNat 32 (s.part.rosterOf i).replyTimeout) } } } })) ∧
      (inOrder → k = n → ∀ r, readReport (t.parts ++ [body]).flatten = some r → takes (s.become (handed x.toNat r good))) ∧
      (inOrder → k = n → readReport (t.parts ++ [body]).flatten = none → t.attempt < (s.part.rosterOf i).retryLimit →
        takes (retries .badFrame)) ∧
      (¬inOrder → t.attempt < (s.part.rosterOf i).retryLimit → takes (retries .partMissing))) ∧
    (∀ (slot : Nat) (body : List Byte) (c : Cmd), t.sentKind = .command → t.slot = some slot → body.length ≤ 200 →
      s.part.cmds.find x.toNat slot = some c → c.sent = true →
      exec (.ack i (SecFrame.bytes { station := x, kind := 0x12, part := 0x11, body := body })) s =
        .next (s.become { good with cmds := { s.part.cmds with cmds := s.part.cmds.cmds.map fun y =>
          if y.station == x.toNat && y.slot == slot then
            { y with acked := true, deadline := s.part.strokeDeadline x.toNat slot } else y } })) ∧
    (∀ (slot : Nat) (body : List Byte) (c : Cmd), t.sentKind = .command → t.slot = some slot → body.length ≤ 200 →
      s.part.cmds.find x.toNat slot = some c → c.sent = true → c.origin = .host → s.part.cmds.held = [] →
      s.part.Unnamed x.toNat slot →
      ∃ u, exec (.nak i (SecFrame.bytes { station := x, kind := 0x13, part := 0x11, body := body })) s = .next u ∧
        u.pending = s.pending ∧
        u.part.cmds = { s.part.cmds with cmds := s.part.cmds.cmds.filter fun y => !(y.station == x.toNat && y.slot == slot) } ∧
        u.part.ports.stations = good.ports.stations ∧ (u.part.port i).txn = none ∧
        (u.part.port i).lastFailure =
          some { station := x.toNat, kind := .nak, frame := .command, attempt := t.attempt, time := now } ∧
        u.part.run = s.part.run ∧ u.part.traps = s.part.traps ∧ u.part.meters = s.part.meters ∧
        u.part.link = s.part.link.queue
          { kind := .valveFailed, time := now, pig := none, station := some x.toNat, trap := none
            detail := [.val 1 slot, .val 1 c.action.code, .val 1 c.cls.code, .val 1 3,
              .opt 1 ((Table.get s.part.cmds.valves (x.toNat * 256 + slot)).bind (·.position)),
              .opt 1 (((Table.get s.part.cmds.valves (x.toNat * 256 + slot)).bind (·.state)).map ValveState.code)] }) ∧
    (∀ (slot n : Nat) (body : List Byte) (c : Cmd) (m : Trap) (r : TrapRec), t.sentKind = .command → t.slot = some slot →
      body.length ≤ 200 → s.part.cmds.find x.toNat slot = some c → c.sent = true → c.origin = .sequence n → s.part.cmds.held = [] →
      s.part.StepPlaced n m r x.toNat slot c.action →
      ∃ u, exec (.nak i (SecFrame.bytes { station := x, kind := 0x13, part := 0x11, body := body })) s = .next u ∧
        u.pending = s.pending ∧ u.part.FaultedBy s.part n m r .valveRejected slot ∧ u.part.cmds.find x.toNat slot = none ∧
        u.part.ports.stations = good.ports.stations ∧ (u.part.port i).txn = none ∧ u.part.run = s.part.run ∧
        u.part.meters = s.part.meters)

/-- RESET PORT: the transaction is abandoned and what was being transmitted cut off, the stations of the port's roster are UNKNOWN, its
cycle starts afresh and its next transaction is chosen at once, its last failure and the other ports are kept, and the reply counts the
commands ended: none when none is outstanding; and, with no entry held, the host commands that stand on the port on valves that no trap
names all end LINK RESET, the SENT ones first in order of sending, then those QUEUED in queue order. A station that was SILENT has left
it: its SILENT meters are UNBASELINED and its next report is its recovery report. A sequence whose command stands on the port among such
host commands faults LINK RESET; where several of its commands do, SENT or QUEUED, every one ends, is counted and is FAILED, none
withdrawn, and the sequence faults once, over the first. A port outside 0..3 is RANGE (R33, R86, R104, R118, R123, R137, R138, R141, R144,
R145, R158). Left out: the order of the notices where SILENT stations are among them, and several sequences' commands on one port. That
the fault withdraws none of the commands that end with the first is the model's reading (log entry 51); the log of frames and the layout
of the notices are the model's (log entries 4 and 17). -/
def Obligations.ResetPortStartsAfresh : Prop :=
  ∀ (tag n : Byte) (l : Link) (s : State),
    let f := requestFrame 0x62 tag [n]
    s.part.turnOf f l →
      (4 ≤ n.toNat → exec (.resetPort tag [n]) s = .next (s.become (s.part.onlyReplies l f .range []))) ∧
      (∀ i : Fin 4, n.toNat = i.val →
        ∃ t, exec (.resetPort tag [n]) s = .next t ∧ t.pending = s.pending ∧ t.part.clocks = s.part.clocks ∧
          t.part.lineMap = s.part.lineMap ∧ (t.part.port i).lastFailure = (s.part.port i).lastFailure ∧
          t.part.out.lines = s.part.out.lines ++ s.part.cutFrame i ∧
          (∀ x ∈ (s.part.rosterOf i).stations, Table.has s.part.ports.stations x = true → t.part.live x = .unknown) ∧
          (∀ x, x ∉ (s.part.rosterOf i).stations → Table.get t.part.ports.stations x = Table.get s.part.ports.stations x) ∧
          (∀ k m r, Table.Rising s.part.map.meters → Table.get s.part.map.meters k = some m →
            Table.get s.part.meters.meters k = some r → t.part.health k =
              if m.station ∈ (s.part.rosterOf i).stations ∧ s.part.isSilent m.station = true ∧ r.health = .silent then .unbaselined
              else r.health) ∧
          (∀ x a, Table.get s.part.attr.stations x = some a →
            Table.get t.part.attr.stations x =
              some { a with recovery := a.recovery || (decide (x ∈ (s.part.rosterOf i).stations) && s.part.isSilent x) }) ∧
          (s.part.cmds.cmds = [] →
            t.part.port i = PortRec.afresh (s.part.rosterOf i).stations (s.part.port i).lastFailure ∧
              (∀ j, j ≠ i → t.part.port j = s.part.port j) ∧ t.part.cmds = s.part.cmds ∧ t.part.traps = s.part.traps ∧
              t.part.records = s.part.records ∧ t.part.repliedSince s.part f .ok [.val 4 0])) ∧
      (∀ (i : Fin 4) (k : Nat) (m : Trap) (r : TrapRec) (c : Cmd), n.toNat = i.val → s.part.cmds.held = [] → s.part.cmds.Bounded →
        c ∈ s.part.cmds.cmds → c.port = i → c.origin = .sequence k → c.sent = true ∨ (c.station, c.slot) ∈ (s.part.port i).queue →
        s.part.StepPlaced k m r c.station c.slot c.action →
        (∀ e ∈ s.part.cmds.cmds, e ≠ c → e.origin = .host ∧ s.part.Unnamed e.station e.slot) →
        (∀ v ∈ (s.part.port i).queue, ∀ e, s.part.cmds.find v.1 v.2 = some e → e.port = i) →
        ∃ t y z, exec (.resetPort tag [n]) s = .next t ∧ Table.get t.part.traps k = some y ∧ y.state = .fault ∧ y.step = r.step ∧
          y.holding = r.holding ∧ y.lastFault = some z ∧ z.reason = .linkReset ∧ z.slot = some c.slot ∧
          t.part.cmds.find c.station c.slot = none ∧
          t.part.port i = PortRec.afresh (s.part.rosterOf i).stations (s.part.port i).lastFailure) ∧
      (∀ (i : Fin 4) (k : Nat) (m : Trap) (r : TrapRec) (first : Cmd), n.toNat = i.val →
        s.part.EndableTogether i (fun c => c.port == i) k m r →
        let gone := (s.part.cmds.cmds.filter fun c => c.sent && c.port == i) ++
          (s.part.port i).queue.filterMap fun v => s.part.cmds.find v.1 v.2
        gone.find? (fun c => decide (c.origin = .sequence k)) = some first →
        ∃ t, exec (.resetPort tag [n]) s = .next t ∧ t.pending = s.pending ∧
          t.part.EndedTogether s.part (fun c => c.port == i) k m r .linkReset first gone ∧
          t.part.repliedSince s.part f .ok [.val 4 gone.length] ∧
          t.part.port i = PortRec.afresh (s.part.rosterOf i).stations (s.part.port i).lastFailure ∧
          ((∀ x ∈ (s.part.rosterOf i).stations, s.part.isSilent x = false) →
            t.part.link = s.part.endingNotices k m r .linkReset first gone l)) ∧
      (∀ i : Fin 4, n.toNat = i.val → s.part.cmds.cmds = [] → (∀ x ∈ (s.part.rosterOf i).stations, s.part.isSilent x = false) →
        ∃ t, exec (.resetPort tag [n]) s = .next t ∧
          t = s.become ({ s.part with
            ports :=
              { port := s.part.ports.port.set i (PortRec.afresh (s.part.rosterOf i).stations (s.part.port i).lastFailure)
                stations := t.part.ports.stations }
            out := { s.part.out with lines := s.part.out.lines ++ s.part.cutFrame i } }.onlyReplies l f .ok [.val 4 0]) ∧
          (∀ x ∈ (s.part.rosterOf i).stations, t.part.live x = .unknown) ∧
          (∀ x, x ∉ (s.part.rosterOf i).stations → Table.get t.part.ports.stations x = Table.get s.part.ports.stations x)) ∧
      (∀ i : Fin 4, n.toNat = i.val → s.part.cmds.held = [] → s.part.cmds.Bounded → (s.part.port i).queue.Nodup →
        (∀ x ∈ (s.part.rosterOf i).stations, s.part.isSilent x = false) →
        (∀ c ∈ s.part.cmds.cmds, c.port = i →
          c.origin = .host ∧ s.part.Unnamed c.station c.slot ∧ (c.sent = true ∨ (c.station, c.slot) ∈ (s.part.port i).queue)) →
        (∀ v ∈ (s.part.port i).queue, ∀ c, s.part.cmds.find v.1 v.2 = some c → c.port = i ∧ c.sent = false) →
        let gone := (s.part.cmds.cmds.filter fun c => c.sent && c.port == i) ++
          (s.part.port i).queue.filterMap fun v => s.part.cmds.find v.1 v.2
        ∃ t, exec (.resetPort tag [n]) s = .next t ∧
          t = s.become ({ s.part with
            cmds := { s.part.cmds with cmds := s.part.cmds.cmds.filter fun c => c.port != i }
            ports :=
              { port := s.part.ports.port.set i (PortRec.afresh (s.part.rosterOf i).stations (s.part.port i).lastFailure)
                stations := t.part.ports.stations }
            out := { s.part.out with lines := s.part.out.lines ++ s.part.cutFrame i } }.onlyReplies
              (gone.foldl (fun k c => k.queue (s.part.failedNotice c 5)) l) f .ok [.val 4 gone.length]) ∧
          (∀ x ∈ (s.part.rosterOf i).stations, t.part.live x = .unknown) ∧
          (∀ x, x ∉ (s.part.rosterOf i).stations → Table.get t.part.ports.stations x = Table.get s.part.ports.stations x))

/-- QUERY TRAP, QUERY VALVE, QUERY PORT and QUERY STATION, in every mode: RANGE for an index out of range, NO SUCH for one absent from the
committed map, else the fields that R125, R140, R156 and R157 list, in their order (R100). The layouts are the model's reading where the
appendix does not give them (log entry 16). A lead, and which other fields have a presence byte, are as log entry 38 says; that interlock
now is 1 exactly when a pig is near, whatever the claim, VALVE BUSY and TRAP BUSY would say first, and that POLL and COMMAND are coded 0
and 1, are the model's choices (log entries 48 and 58). -/
def Obligations.EquipmentQueriesAnswer : Prop :=
  ∀ (tag a b : Byte) (l : Link) (s : State),
    let p := s.part
    let m := s.part.lineMap.committed
    let pigs := fun (ids : List Nat) => Field.val 1 ids.length :: ids.map (Field.val 2)
    let toGo := fun (d : Tick) => if (p.clocks.tick - d).toNat < 2147483648 then 0 else (d - p.clocks.tick).toNat
    let origin : Option Origin → List Field := fun o =>
      match o with
      | none => [.opt 1 none, .opt 1 none]
      | some .host => [.opt 1 (some 0), .opt 1 none]
      | some (.sequence t) => [.opt 1 (some 1), .opt 1 (some t)]
    (p.turnOf (requestFrame 0x47 tag [a]) l →
      let answers := fun (c : ReplyCode) (fs : List Field) =>
        exec (.queryTrap tag [a]) s = .next (s.become (p.onlyReplies l (requestFrame 0x47 tag [a]) c fs))
      (a.toNat = 0 ∨ 16 < a.toNat → answers .range []) ∧
      (1 ≤ a.toNat → a.toNat ≤ 16 → Table.get m.traps a.toNat = none → answers .noSuch []) ∧
      (∀ c r, 1 ≤ a.toNat → a.toNat ≤ 16 → Table.get m.traps a.toNat = some c → Table.get p.traps a.toNat = some r →
        let head := if c.role = .receiver then (p.awaited a.toNat).head?.bind p.pig else none
        let e := r.lastFault
        answers .ok
          ([.val 1 c.role.code, .val 1 c.station, .val 4 (m.trapCoord a.toNat), .val 1 r.state.code, .opt 1 (r.step.map TrapState.code),
            .val 1 r.abort.toNat, .pres 2 (r.holding.map (·.id)), .pres 2 (r.holding.map (·.tag)),
            .opt 1 (r.holding.map fun h => h.kind.code), .opt 2 (r.holding.map (·.slip)), .pres 2 r.target, .val 1 r.hold.code,
            .val 1 r.cmds.length] ++
           r.cmds.flatMap (fun k => [.val 1 c.station, .val 1 (c.slotOf k.role), .val 1 k.action.code, .val 1 k.cond.code]) ++
           [.val 1 r.eqSeen.toNat, .opt 4 (r.deadline.map toGo),
            .opt 1 (if c.role = .launcher then some (if a.toNat ∈ p.run.reservations then 1 else 0) else none),
            .opt 1 (e.map fun y => y.reason.code), .opt 1 (e.bind fun y => y.step.map TrapState.code), .opt 1 (e.bind (·.slot)),
            .pres 4 (e.map fun y => y.time.secs.toNat), .opt 1 (r.result.map Result.code), .pres 1 (r.barrel.map (·.toNat)),
            .val 1 c.autoArm.toNat, .pres 2 r.suppressed, .opt 4 (head.map (p.lead c)),
            .opt 4 (head.map fun g => m.trapCoord a.toNat - g.P)]))) ∧
    (p.turnOf (requestFrame 0x51 tag [a, b]) l →
      let answers := fun (c : ReplyCode) (fs : List Field) =>
        exec (.queryValve tag [a, b]) s = .next (s.become (p.onlyReplies l (requestFrame 0x51 tag [a, b]) c fs))
      let inRange := 1 ≤ a.toNat ∧ a.toNat ≤ 64 ∧ 1 ≤ b.toNat ∧ b.toNat ≤ 6
      (¬inRange → answers .range []) ∧
      (inRange → m.valve a.toNat b.toNat = none → answers .noSuch []) ∧
      (∀ v, inRange → m.valve a.toNat b.toNat = some v →
        let naming := m.traps.filter fun e => e.2.station == a.toNat && e.2.slots.contains b.toNat
        let y := Table.get p.cmds.valves (a.toNat * 256 + b.toNat)
        let c := p.cmds.find a.toNat b.toNat
        let h := p.cmds.held.find? fun h => h.station == a.toNat && h.slot == b.toNat
        let near := p.run.pigs.filter (p.near a.toNat)
        let place := fun (k : Cmd) =>
          if k.sent then none else some (((p.port k.port).queue.takeWhile (· != (k.station, k.slot))).length + 1)
        answers .ok
          ([.val 1 v.role.code, .val 1 v.actuator.val, .val 2 v.stroke, .opt 1 ((m.claim a.toNat).map (·.val)), .val 1 naming.length] ++
           naming.flatMap (fun e => [.val 1 e.1, .val 1 (p.trapState e.1).code]) ++
           [.opt 1 (y.bind (·.position)), .opt 1 ((y.bind (·.state)).map ValveState.code),
            .pres 4 ((y.bind (·.time)).map fun z => z.secs.toNat),
            .opt 1 (c.map fun k => k.action.code), .opt 1 (c.bind (·.target)), .opt 1 (c.map fun k => k.cls.code)] ++
           origin (c.map (·.origin)) ++
           [.opt 1 (c.map fun k => k.sent.toNat), .opt 1 (c.map fun k => k.acked.toNat), .opt 1 (c.bind place),
            .opt 4 (c.map fun k => toGo k.deadline),
            .opt 1 (h.map (·.trap)), .opt 1 (h.map fun k => k.action.code), .opt 1 (h.bind (·.target)), .opt 1 (h.map fun k => k.cause.code)] ++
           if v.role = .mainline then
             [.opt 1 (some (if near = [] then 0 else 1)), .pres 2 (near.head?.map (·.id)), .opt 4 (some near.length)]
           else [.opt 1 none, .pres 2 none, .opt 4 none]))) ∧
    (p.turnOf (requestFrame 0x60 tag [a]) l →
      let answers := fun (c : ReplyCode) (fs : List Field) =>
        exec (.queryPort tag [a]) s = .next (s.become (p.onlyReplies l (requestFrame 0x60 tag [a]) c fs))
      (4 ≤ a.toNat → answers .range []) ∧
      (∀ i : Fin 4, a.toNat = i.val →
        let c := m.rosters.get i
        let r := p.ports.port.get i
        let watch := p.watchSet i
        let queue := r.queue.filterMap fun v => p.cmds.find v.1 v.2
        let t := r.txn
        let e := r.lastFailure
        answers .ok
          (.val 1 c.stations.length :: c.stations.flatMap (fun x => [.val 1 x, .val 1 (p.live x).code]) ++
           [.val 1 (if p.lineMap.working.rosters.get i = c then 0 else 1), .val 2 c.replyTimeout, .val 1 c.retryLimit, .val 2 c.pollGap,
            .val 1 r.cycle, .val 1 r.watchDue.toNat, .opt 1 r.watchPtr, .val 1 watch.length] ++ watch.map (Field.val 1) ++
           .val 1 queue.length :: queue.flatMap (fun k =>
             [.val 1 k.station, .val 1 k.slot, .val 1 k.action.code, .opt 1 k.target, .val 1 k.cls.code] ++ origin (some k.origin) ++
               [.val 1 k.sent.toNat]) ++
           [.opt 1 (t.map fun y => y.sentKind.code), .opt 1 (t.map (·.station)), .opt 1 (t.map (·.attempt)),
            .opt 1 (t.map fun y => y.parts.length), .opt 1 (e.map (·.station)), .opt 1 (e.map fun y => y.kind.code),
            .opt 1 (e.map fun y => y.frame.code), .opt 1 (e.map (·.attempt)), .pres 4 (e.map fun y => y.time.secs.toNat)]))) ∧
    (p.turnOf (requestFrame 0x61 tag [a]) l →
      let answers := fun (c : ReplyCode) (fs : List Field) =>
        exec (.queryStation tag [a]) s = .next (s.become (p.onlyReplies l (requestFrame 0x61 tag [a]) c fs))
      (a.toNat = 0 ∨ 64 < a.toNat → answers .range []) ∧
      (1 ≤ a.toNat → a.toNat ≤ 64 → Table.get m.stations a.toNat = none → answers .noSuch []) ∧
      (∀ c r, 1 ≤ a.toNat → a.toNat ≤ 64 → Table.get m.stations a.toNat = some c → Table.get p.attr.stations a.toNat = some r →
        let traps := m.traps.filter fun e => e.2.station == a.toNat && e.2.role == .receiver
        let z := Table.get p.ports.stations a.toNat
        answers .ok
          ([.val 1 (p.live a.toNat).code, .pres 4 ((z.bind (·.lastGood)).map fun y => y.secs.toNat),
            .opt 1 ((m.claim a.toNat).map (·.val)), .val 1 (if (m.claim a.toNat).isSome ∧ p.watched a.toNat = true then 1 else 0),
            .val 1 r.baseline.isSome.toNat, .pres 1 (r.baseline.map fun y => y.1.toNat), .pres 1 (r.baseline.map fun y => y.2.toNat),
            .pres 8 r.lastPassage, .val 4 r.doubles, .val 1 r.recovery.toNat] ++ pigs r.expected ++ pigs r.unobserved ++
           .val 1 traps.length :: traps.flatMap (fun e => .val 1 e.1 :: pigs (p.awaited e.1)))))

/-! ## Run records (chapter 9) -/

/-- A record takes entries at its end while it holds fewer than 48, and then counts what it drops. RECORD START finds the open record,
else the newest completed one, and RECORD NEXT goes on from the cursor, 8 entries at a time, marking the end; a closed cursor is NO
CURSOR and a stranded one GONE, once (R162, R164 to R166). The one-byte index in RECORD NEXT and GONE, and the layout of both replies where
the appendix does not give it, are the model's reading (log entry 16), and the 0 for an absent M its choice (log entry 38). -/
def Obligations.RecordsReadBack : Prop :=
  (∀ (r : RunRec) (e : Entry),
    (r.entries.length < 48 → r.append e = { r with entries := r.entries ++ [e] }) ∧
    (48 ≤ r.entries.length → r.append e = { r with truncated := true, dropped := min (r.dropped + 1) 65535 })) ∧
  (∀ (tag : Byte) (id : Nat) (l : Link) (s : State),
    let f := requestFrame 0x70 tag (leBytes 2 id)
    let answers := fun (c : ReplyCode) => exec (.recordStart tag (leBytes 2 id)) s = .next (s.become (s.part.onlyReplies l f c []))
    id < 65536 → s.part.turnOf f l →
      (id = 0 → answers .range) ∧
      (id ≠ 0 → (∀ r ∈ s.part.records.active ++ s.part.records.completed, r.id ≠ id) → answers .noSuch) ∧
      (∀ (r : RunRec) (before after : List RunRec), id ≠ 0 → r.id = id →
        s.part.records.active = before ++ r :: after ∧ (∀ y ∈ before, y.id ≠ id) ∨
          (∀ y ∈ s.part.records.active, y.id ≠ id) ∧ s.part.records.completed = before ++ r :: after ∧ (∀ y ∈ after, y.id ≠ id) →
        let header : List Field :=
          [.val 2 r.id, .val 2 r.tag, .val 1 r.kind.code, .val 4 r.opened.secs.toNat] ++ r.location.fields ++
            [.opt 1 (r.outcome.map Result.code), .pres 4 (r.closed.map fun z => z.secs.toNat), .val 4 r.entries.length,
             .val 1 (r.truncated.toNat + if r.entries.length ≤ 8 then 2 else 0), .val 2 r.dropped]
        exec (.recordStart tag (leBytes 2 id)) s = .next (s.become
          ({ s.part with records := { s.part.records with cursor := .opened r.serial (min 8 r.entries.length) } }.onlyReplies
            l f .ok (header ++ (r.entries.take 8).flatMap Entry.fields))))) ∧
  (∀ (tag : Byte) (l : Link) (s : State),
    let f := requestFrame 0x71 tag []
    let moves := fun (c : Cursor) (code : ReplyCode) (fs : List Field) =>
      exec (.recordNext tag []) s = .next (s.become
        ({ s.part with records := { s.part.records with cursor := c } }.onlyReplies l f code fs))
    s.part.turnOf f l →
      (s.part.records.cursor = .closed → moves .closed .noCursor []) ∧
      (∀ id pos, s.part.records.cursor = .stranded id pos → moves .closed .gone [.val 2 id, .val 1 (pos + 1)]) ∧
      (∀ serial pos r, s.part.records.cursor = .opened serial pos → pos ≤ r.entries.length →
        ((s.part.records.active ++ s.part.records.completed).find? fun y => y.serial == serial) = some r →
        let piece := (r.entries.drop pos).take 8
        moves (.opened serial (pos + piece.length)) .ok
          ([.val 2 r.id] ++ r.location.fields ++
            [.opt 1 (r.outcome.map Result.code), .val 4 r.entries.length,
             .val 1 (r.truncated.toNat + if r.entries.length ≤ pos + 8 then 2 else 0), .val 1 (pos + 1)] ++
            piece.flatMap Entry.fields)))
end

