-- ==== Sys2Proof/Laws/Tables.lean ====
section
/-! SUPPORT. What the operations over keyed tables, over the four ports and over bytes do, each said once. -/

namespace Sys2Proof.Machine

/-! ## Keyed tables -/

@[simp] theorem Table.get_nil {α : Type} (n : Nat) : Table.get ([] : Table α) n = none := rfl

theorem Table.get_cons {α : Type} (k n : Nat) (v : α) (t : Table α) :
    Table.get ((k, v) :: t) n = if k = n then some v else Table.get t n := rfl

theorem Table.has_eq {α : Type} (t : Table α) (n : Nat) : Table.has t n = (Table.get t n).isSome := rfl

/-- A table answers some record exactly for its keys. -/
theorem Table.get_isSome {α : Type} (t : Table α) (n : Nat) : (Table.get t n).isSome = true ↔ n ∈ Table.keys t := by
  induction t with
  | nil => simp [Table.keys]
  | cons e rest ih =>
    obtain ⟨k, v⟩ := e
    by_cases h : k = n
    · simp [Table.get_cons, Table.keys, h]
    · have h' : ¬n = k := fun x => h x.symm
      simpa [Table.get_cons, Table.keys, h, h'] using ih

/-- A record answered stands in the table. -/
theorem Table.mem_of_get {α : Type} {t : Table α} {n : Nat} {v : α} (h : Table.get t n = some v) : (n, v) ∈ t := by
  induction t with
  | nil => cases h
  | cons e rest ih =>
    obtain ⟨k, w⟩ := e
    by_cases hk : k = n
    · rw [Table.get_cons, if_pos hk] at h
      cases h; subst hk; exact List.mem_cons_self
    · rw [Table.get_cons, if_neg hk] at h
      exact List.mem_cons_of_mem _ (ih h)

/-- After a put, the key answers the record put and every other key what it did. -/
theorem Table.get_put {α : Type} (t : Table α) (n k : Nat) (x : α) :
    Table.get (Table.put t n x) k = if n = k then some x else Table.get t k := by
  induction t with
  | nil => rfl
  | cons e rest ih =>
    obtain ⟨a, v⟩ := e
    by_cases h1 : n < a
    · simp only [Table.put, if_pos h1, Table.get_cons]
    · by_cases h2 : n = a
      · subst h2
        simp only [Table.put, if_neg h1, if_true, Table.get_cons]
        by_cases h3 : n = k <;> simp [h3]
      · simp only [Table.put, if_neg h1, if_neg h2, Table.get_cons, ih]
        by_cases h3 : a = k
        · have h4 : ¬n = k := fun h => h2 (h.trans h3.symm)
          simp [h3, h4]
        · simp [h3]

/-- After a modify, the key answers its record changed and every other key what it did. -/
theorem Table.get_modify {α : Type} (t : Table α) (n k : Nat) (f : α → α) :
    Table.get (Table.modify t n f) k = if n = k then (Table.get t k).map f else Table.get t k := by
  induction t with
  | nil => by_cases h : n = k <;> simp [Table.modify, h]
  | cons e rest ih =>
    obtain ⟨a, v⟩ := e
    have cons : Table.modify ((a, v) :: rest) n f = (if a = n then (a, f v) else (a, v)) :: Table.modify rest n f := rfl
    rw [cons]
    by_cases h : a = n
    · subst h
      rw [if_pos rfl, Table.get_cons, Table.get_cons, ih]
      by_cases h2 : a = k <;> simp [h2]
    · rw [if_neg h, Table.get_cons, Table.get_cons, ih]
      by_cases h2 : a = k
      · have h3 : ¬n = k := fun e => h (h2.trans e.symm)
        simp [h2, h3]
      · simp [h2]

/-- After an erase, the key answers nothing and every other key what it did. -/
theorem Table.get_erase {α : Type} (t : Table α) (n k : Nat) :
    Table.get (Table.erase t n) k = if n = k then none else Table.get t k := by
  induction t with
  | nil => by_cases h : n = k <;> simp [Table.erase, h]
  | cons e rest ih =>
    obtain ⟨a, v⟩ := e
    have cons : Table.erase ((a, v) :: rest) n = if (a != n) = true then (a, v) :: Table.erase rest n else Table.erase rest n := by
      simp only [Table.erase, List.filter_cons]
    rw [cons]
    by_cases h : a = n
    · have h' : ¬((a != n) = true) := by simp [h]
      rw [if_neg h', ih, Table.get_cons]
      by_cases h2 : n = k
      · simp [h2]
      · have h3 : ¬a = k := fun e => h2 (h.symm.trans e)
        simp [h2, h3]
    · have h' : (a != n) = true := by simp [h]
      rw [if_pos h', Table.get_cons, Table.get_cons, ih]
      by_cases h2 : a = k
      · have h3 : ¬n = k := fun e => h (h2.trans e.symm)
        simp [h2, h3]
      · simp [h2]

/-- A function over all records acts on each answer. -/
theorem Table.get_mapAll {α β : Type} (t : Table α) (f : Nat → α → β) (k : Nat) :
    Table.get (Table.mapAll t f) k = (Table.get t k).map (f k) := by
  induction t with
  | nil => rfl
  | cons e rest ih =>
    obtain ⟨a, v⟩ := e
    have cons : Table.mapAll ((a, v) :: rest) f = (a, f a v) :: Table.mapAll rest f := rfl
    rw [cons, Table.get_cons, Table.get_cons, ih]
    by_cases h : a = k
    · subst h; simp
    · simp [h]

@[simp] theorem Table.keys_modify {α : Type} (t : Table α) (n : Nat) (f : α → α) : Table.keys (Table.modify t n f) = Table.keys t := by
  induction t with
  | nil => rfl
  | cons e rest ih =>
    have cons : Table.keys (Table.modify (e :: rest) n f) = e.1 :: Table.keys (Table.modify rest n f) := by
      simp only [Table.modify, Table.keys, List.map_cons]
      split <;> rfl
    rw [cons, ih]
    rfl

@[simp] theorem Table.keys_mapAll {α β : Type} (t : Table α) (f : Nat → α → β) : Table.keys (Table.mapAll t f) = Table.keys t := by
  simp [Table.keys, Table.mapAll, Function.comp_def]

@[simp] theorem Table.has_modify {α : Type} (t : Table α) (n k : Nat) (f : α → α) : Table.has (Table.modify t n f) k = Table.has t k := by
  rw [Table.has_eq, Table.has_eq, Table.get_modify]
  split <;> simp

/-- The keys of a put are the key and the keys there were. -/
theorem Table.mem_keys_put {α : Type} (t : Table α) (n k : Nat) (x : α) : k ∈ Table.keys (Table.put t n x) ↔ k = n ∨ k ∈ Table.keys t := by
  rw [← Table.get_isSome, ← Table.get_isSome, Table.get_put]
  by_cases h : n = k
  · simp [h]
  · have h' : ¬k = n := fun e => h e.symm
    simp [h, h']

theorem Table.rising_modify {α : Type} (t : Table α) (n : Nat) (f : α → α) : Table.Rising (Table.modify t n f) ↔ Table.Rising t := by
  unfold Table.Rising
  rw [Table.keys_modify]

theorem Table.rising_mapAll {α β : Type} (t : Table α) (f : Nat → α → β) : Table.Rising (Table.mapAll t f) ↔ Table.Rising t := by
  unfold Table.Rising
  rw [Table.keys_mapAll]

theorem Table.rising_erase {α : Type} (t : Table α) (n : Nat) (h : Table.Rising t) : Table.Rising (Table.erase t n) := by
  have sub : (Table.keys (Table.erase t n)).Sublist (Table.keys t) := List.Sublist.map _ List.filter_sublist
  exact List.Pairwise.sublist sub h

theorem Table.rising_put {α : Type} (t : Table α) (n : Nat) (x : α) (h : Table.Rising t) : Table.Rising (Table.put t n x) := by
  induction t with
  | nil => simp [Table.put, Table.Rising, Table.keys]
  | cons e rest ih =>
    obtain ⟨a, v⟩ := e
    have hd : ∀ k ∈ Table.keys rest, a < k := (List.pairwise_cons.mp h).1
    have tl : Table.Rising rest := (List.pairwise_cons.mp h).2
    by_cases h1 : n < a
    · simp only [Table.put, if_pos h1]
      refine List.pairwise_cons.mpr ⟨?_, h⟩
      intro k hk
      rcases List.mem_cons.mp hk with rfl | hk
      · exact h1
      · exact Nat.lt_trans h1 (hd k hk)
    · by_cases h2 : n = a
      · subst h2
        simp only [Table.put, if_neg h1, if_true]
        exact List.pairwise_cons.mpr ⟨hd, tl⟩
      · simp only [Table.put, if_neg h1, if_neg h2]
        refine List.pairwise_cons.mpr ⟨?_, ih tl⟩
        intro k hk
        rcases (Table.mem_keys_put rest n k x).mp hk with rfl | hk
        · show a < k
          omega
        · exact hd k hk

/-! ## The four ports -/

theorem Four.get_set {α : Type} (x : Four α) (i j : Fin 4) (v : α) : (x.set i v).get j = if i = j then v else x.get j := by
  match i, j with
  | 0, 0 | 0, 1 | 0, 2 | 0, 3 | 1, 0 | 1, 1 | 1, 2 | 1, 3 | 2, 0 | 2, 1 | 2, 2 | 2, 3 | 3, 0 | 3, 1 | 3, 2 | 3, 3 => rfl

@[simp] theorem Four.set_set {α : Type} (x : Four α) (i : Fin 4) (v w : α) : (x.set i v).set i w = x.set i w := by
  match i with
  | 0 | 1 | 2 | 3 => rfl

@[simp] theorem Four.set_get {α : Type} (x : Four α) (i : Fin 4) : x.set i (x.get i) = x := by
  match i with
  | 0 | 1 | 2 | 3 => rfl

@[simp] theorem Four.get_all {α : Type} (v : α) (i : Fin 4) : (Four.all v).get i = v := by
  match i with
  | 0 | 1 | 2 | 3 => rfl

theorem Four.get_modify {α : Type} (x : Four α) (i j : Fin 4) (f : α → α) :
    (x.modify i f).get j = if i = j then f (x.get j) else x.get j := by
  unfold Four.modify
  rw [Four.get_set]
  by_cases h : i = j
  · subst h; simp
  · simp [h]

theorem Part.port_setPort (p : Part) (i j : Fin 4) (f : PortRec → PortRec) :
    (p.setPort i f).port j = if i = j then f (p.port j) else p.port j :=
  Four.get_modify p.ports.port i j f

/-! ## Bytes -/

@[simp] theorem leBytes_length (n v : Nat) : (leBytes n v).length = n := by
  induction n generalizing v with
  | zero => rfl
  | succ n ih => simp [leBytes, ih]

/-- Bytes spell the number they were made from, within their width (R181). -/
theorem leNat_leBytes (n v : Nat) : leNat (leBytes n v) = v % 256 ^ n := by
  induction n generalizing v with
  | zero => simp [leBytes, leNat, Nat.mod_one]
  | succ n ih =>
    have step : v % 256 ^ (n + 1) = v % 256 + 256 * (v / 256 % 256 ^ n) := by
      rw [Nat.pow_succ, Nat.mul_comm (256 ^ n) 256, Nat.mod_mul]
    simp only [leBytes, leNat, ih, BitVec.toNat_ofNat, step]

/-- A number in n bytes is below 256 to the n. -/
theorem leNat_lt (l : List Byte) : leNat l < 256 ^ l.length := by
  induction l with
  | nil => simp [leNat]
  | cons b rest ih =>
    have hb := b.isLt
    have hp : 256 ^ (b :: rest).length = 256 * 256 ^ rest.length := by
      rw [List.length_cons, Nat.pow_succ, Nat.mul_comm]
    simp only [leNat, hp]
    omega

/-- A field of a body that begins with its bytes. -/
theorem fieldAt_leBytes (n v : Nat) (rest : List Byte) : fieldAt (leBytes n v ++ rest) 0 n = v % 256 ^ n := by
  have h : (leBytes n v ++ rest).take n = leBytes n v := by
    have := List.take_left (l₁ := leBytes n v) (l₂ := rest)
    rwa [leBytes_length] at this
  simp [fieldAt, h, leNat_leBytes]

/-- A field of a body after a prefix is the field of what follows it. -/
theorem fieldAt_append (front rest : List Byte) (offset n : Nat) :
    fieldAt (front ++ rest) (front.length + offset) n = fieldAt rest offset n := by
  have h : (front ++ rest).drop (front.length + offset) = rest.drop offset := by
    rw [← List.drop_drop, List.drop_left]
  rw [fieldAt, fieldAt, h]

@[simp] theorem supervisorFrame_length (kind tag : Byte) (body : List Byte) : (supervisorFrame kind tag body).length = body.length + 7 := by
  simp [supervisorFrame]
  omega

@[simp] theorem Frame.bytes_length (f : Frame) : f.bytes.length = f.body.length + 7 := by
  simp [Frame.bytes]

end Sys2Proof.Machine
end

