-- ==== Sys2Proof/Laws/PerInstr.lean ====
section
/-! SUPPORT. For every command: the frame of a well-formed request fits the supervisor line (R182), one lemma per constructor. -/

namespace Sys2Proof.Laws.FitsLine

open Sys2Proof.Machine

/-- The frame that a well-formed command stands for, if it stands for one, has a body of at most 512 bytes, and 7 bytes more. -/
def Statement (i : Instr) : Prop :=
  i.wellFormed = true → ∀ f, i.frame = some f → f.body.length ≤ 512 ∧ f.bytes.length = f.body.length + 7

/-- A body that fits gives a frame that fits. -/
theorem of_body {k : Nat} {tag : Byte} {body : List Byte} (h : bodyFits body = true) (f : Frame)
    (e : some (requestFrame k tag body) = some f) : f.body.length ≤ 512 ∧ f.bytes.length = f.body.length + 7 := by
  cases e
  exact ⟨of_decide_eq_true h, Frame.bytes_length _⟩

/-- A command without a frame has nothing to fit. -/
theorem of_none (f : Frame) (e : none = some f) : f.body.length ≤ 512 ∧ f.bytes.length = f.body.length + 7 := by
  cases e

theorem supplyApplied : Statement .supplyApplied := fun _ f e => of_none f e

theorem resetAsserted : Statement .resetAsserted := fun _ f e => of_none f e

theorem resetHoldExpiry : Statement .resetHoldExpiry := fun _ f e => of_none f e

theorem resetReleased : Statement .resetReleased := fun _ f e => of_none f e

theorem supervisorFrame (bytes : List Byte) : Statement (.supervisorFrame bytes) := fun _ f e => of_none f e

theorem interByteTimeout : Statement .interByteTimeout := fun _ f e => of_none f e

theorem unknownRequest (kind tag : Byte) (body : List Byte) : Statement (.unknownRequest kind tag body) := by
  intro h f e
  cases e
  exact ⟨of_decide_eq_true (Bool.and_eq_true_iff.mp h).2, Frame.bytes_length _⟩

theorem ident (tag : Byte) (body : List Byte) : Statement (.ident tag body) := fun h f e => of_body h f e

theorem setClock (tag : Byte) (body : List Byte) : Statement (.setClock tag body) := fun h f e => of_body h f e

theorem fetchNotices (tag : Byte) (body : List Byte) : Statement (.fetchNotices tag body) := fun h f e => of_body h f e

theorem setMode (tag : Byte) (body : List Byte) : Statement (.setMode tag body) := fun h f e => of_body h f e

theorem restart (tag : Byte) (body : List Byte) : Statement (.restart tag body) := fun h f e => of_body h f e

theorem warmRestart : Statement .warmRestart := fun _ f e => of_none f e

theorem mapWrite (tag : Byte) (body : List Byte) : Statement (.mapWrite tag body) := fun h f e => of_body h f e

theorem mapClear (tag : Byte) (body : List Byte) : Statement (.mapClear tag body) := fun h f e => of_body h f e

theorem mapDiscard (tag : Byte) (body : List Byte) : Statement (.mapDiscard tag body) := fun h f e => of_body h f e

theorem mapRead (tag : Byte) (body : List Byte) : Statement (.mapRead tag body) := fun h f e => of_body h f e

theorem mapCommit (tag : Byte) (body : List Byte) (verified : Bool) : Statement (.mapCommit tag body verified) := fun h f e => of_body h f e

theorem mapIdent (tag : Byte) (body : List Byte) : Statement (.mapIdent tag body) := fun h f e => of_body h f e

theorem mapLocate (tag : Byte) (body : List Byte) : Statement (.mapLocate tag body) := fun h f e => of_body h f e

theorem rosterSet (tag : Byte) (body : List Byte) : Statement (.rosterSet tag body) := fun h f e => of_body h f e

theorem queryMeter (tag : Byte) (body : List Byte) : Statement (.queryMeter tag body) := fun h f e => of_body h f e

theorem querySection (tag : Byte) (body : List Byte) : Statement (.querySection tag body) := fun h f e => of_body h f e

theorem unfreezeCredit (tag : Byte) (body : List Byte) : Statement (.unfreezeCredit tag body) := fun h f e => of_body h f e

theorem unfreezeDiscard (tag : Byte) (body : List Byte) : Statement (.unfreezeDiscard tag body) := fun h f e => of_body h f e

theorem declarePig (tag : Byte) (body : List Byte) : Statement (.declarePig tag body) := fun h f e => of_body h f e

theorem fixPig (tag : Byte) (body : List Byte) : Statement (.fixPig tag body) := fun h f e => of_body h f e

theorem writeOffPig (tag : Byte) (body : List Byte) : Statement (.writeOffPig tag body) := fun h f e => of_body h f e

theorem queryPig (tag : Byte) (body : List Byte) : Statement (.queryPig tag body) := fun h f e => of_body h f e

theorem queryRunTable (tag : Byte) (body : List Byte) : Statement (.queryRunTable tag body) := fun h f e => of_body h f e

theorem loadPig (tag : Byte) (body : List Byte) : Statement (.loadPig tag body) := fun h f e => of_body h f e

theorem launch (tag : Byte) (body : List Byte) : Statement (.launch tag body) := fun h f e => of_body h f e

theorem receiveArm (tag : Byte) (body : List Byte) : Statement (.receiveArm tag body) := fun h f e => of_body h f e

theorem transfer (tag : Byte) (body : List Byte) : Statement (.transfer tag body) := fun h f e => of_body h f e

theorem removePig (tag : Byte) (body : List Byte) : Statement (.removePig tag body) := fun h f e => of_body h f e

theorem abort (tag : Byte) (body : List Byte) : Statement (.abort tag body) := fun h f e => of_body h f e

theorem resume (tag : Byte) (body : List Byte) : Statement (.resume tag body) := fun h f e => of_body h f e

theorem queryTrap (tag : Byte) (body : List Byte) : Statement (.queryTrap tag body) := fun h f e => of_body h f e

theorem valve (tag : Byte) (body : List Byte) : Statement (.valve tag body) := fun h f e => of_body h f e

theorem queryValve (tag : Byte) (body : List Byte) : Statement (.queryValve tag body) := fun h f e => of_body h f e

theorem queryPort (tag : Byte) (body : List Byte) : Statement (.queryPort tag body) := fun h f e => of_body h f e

theorem queryStation (tag : Byte) (body : List Byte) : Statement (.queryStation tag body) := fun h f e => of_body h f e

theorem resetPort (tag : Byte) (body : List Byte) : Statement (.resetPort tag body) := fun h f e => of_body h f e

theorem recordStart (tag : Byte) (body : List Byte) : Statement (.recordStart tag body) := fun h f e => of_body h f e

theorem recordNext (tag : Byte) (body : List Byte) : Statement (.recordNext tag body) := fun h f e => of_body h f e

theorem pollGapExpiry (port : Fin 4) : Statement (.pollGapExpiry port) := fun _ f e => of_none f e

theorem sectionTransmitDone (port : Fin 4) : Statement (.sectionTransmitDone port) := fun _ f e => of_none f e

theorem replyTimeout (port : Fin 4) : Statement (.replyTimeout port) := fun _ f e => of_none f e

theorem report (port : Fin 4) (bytes : List Byte) : Statement (.report port bytes) := fun _ f e => of_none f e

theorem ack (port : Fin 4) (bytes : List Byte) : Statement (.ack port bytes) := fun _ f e => of_none f e

theorem nak (port : Fin 4) (bytes : List Byte) : Statement (.nak port bytes) := fun _ f e => of_none f e

theorem badFrame (port : Fin 4) (bytes : List Byte) : Statement (.badFrame port bytes) := fun _ f e => of_none f e

theorem valveTimeout (station slot : Nat) : Statement (.valveTimeout station slot) := fun _ f e => of_none f e

theorem equaliseTimeout (trap : Nat) : Statement (.equaliseTimeout trap) := fun _ f e => of_none f e

theorem driveTimeout (trap : Nat) : Statement (.driveTimeout trap) := fun _ f e => of_none f e

theorem divertingTimeout (trap : Nat) : Statement (.divertingTimeout trap) := fun _ f e => of_none f e

theorem lossOfSupply (bankWrite : Bool) : Statement (.lossOfSupply bankWrite) := fun _ f e => of_none f e

theorem sectionByteGap (port : Fin 4) : Statement (.sectionByteGap port) := fun _ f e => of_none f e

end Sys2Proof.Laws.FitsLine
end

