-- ==== Sys2Proof/Laws/State.lean ====
section
/-! SUPPORT. For each update of the part, one lemma per field that it leaves alone, so that no proof unfolds a record update; and the
field that it changes, said once. -/

namespace Sys2Proof.Machine

/-! ## `Part.elapseTo` -/

@[simp] theorem Part.elapseTo_power (p : Part) (d : Tick) : (p.elapseTo d).power = p.power := rfl
@[simp] theorem Part.elapseTo_link (p : Part) (d : Tick) : (p.elapseTo d).link = p.link := rfl
@[simp] theorem Part.elapseTo_lineMap (p : Part) (d : Tick) : (p.elapseTo d).lineMap = p.lineMap := rfl
@[simp] theorem Part.elapseTo_meters (p : Part) (d : Tick) : (p.elapseTo d).meters = p.meters := rfl
@[simp] theorem Part.elapseTo_run (p : Part) (d : Tick) : (p.elapseTo d).run = p.run := rfl
@[simp] theorem Part.elapseTo_attr (p : Part) (d : Tick) : (p.elapseTo d).attr = p.attr := rfl
@[simp] theorem Part.elapseTo_traps (p : Part) (d : Tick) : (p.elapseTo d).traps = p.traps := rfl
@[simp] theorem Part.elapseTo_cmds (p : Part) (d : Tick) : (p.elapseTo d).cmds = p.cmds := rfl
@[simp] theorem Part.elapseTo_ports (p : Part) (d : Tick) : (p.elapseTo d).ports = p.ports := rfl
@[simp] theorem Part.elapseTo_records (p : Part) (d : Tick) : (p.elapseTo d).records = p.records := rfl
@[simp] theorem Part.elapseTo_out (p : Part) (d : Tick) : (p.elapseTo d).out = p.out := rfl

/-! ## `Part.notify` -/

@[simp] theorem Part.notify_power (p : Part) (kind : NoticeKind) (pig station trap : Option Nat) (detail : List Field) : (p.notify kind pig station trap detail).power = p.power := rfl
@[simp] theorem Part.notify_clocks (p : Part) (kind : NoticeKind) (pig station trap : Option Nat) (detail : List Field) : (p.notify kind pig station trap detail).clocks = p.clocks := rfl
@[simp] theorem Part.notify_lineMap (p : Part) (kind : NoticeKind) (pig station trap : Option Nat) (detail : List Field) : (p.notify kind pig station trap detail).lineMap = p.lineMap := rfl
@[simp] theorem Part.notify_meters (p : Part) (kind : NoticeKind) (pig station trap : Option Nat) (detail : List Field) : (p.notify kind pig station trap detail).meters = p.meters := rfl
@[simp] theorem Part.notify_run (p : Part) (kind : NoticeKind) (pig station trap : Option Nat) (detail : List Field) : (p.notify kind pig station trap detail).run = p.run := rfl
@[simp] theorem Part.notify_attr (p : Part) (kind : NoticeKind) (pig station trap : Option Nat) (detail : List Field) : (p.notify kind pig station trap detail).attr = p.attr := rfl
@[simp] theorem Part.notify_traps (p : Part) (kind : NoticeKind) (pig station trap : Option Nat) (detail : List Field) : (p.notify kind pig station trap detail).traps = p.traps := rfl
@[simp] theorem Part.notify_cmds (p : Part) (kind : NoticeKind) (pig station trap : Option Nat) (detail : List Field) : (p.notify kind pig station trap detail).cmds = p.cmds := rfl
@[simp] theorem Part.notify_ports (p : Part) (kind : NoticeKind) (pig station trap : Option Nat) (detail : List Field) : (p.notify kind pig station trap detail).ports = p.ports := rfl
@[simp] theorem Part.notify_records (p : Part) (kind : NoticeKind) (pig station trap : Option Nat) (detail : List Field) : (p.notify kind pig station trap detail).records = p.records := rfl
@[simp] theorem Part.notify_out (p : Part) (kind : NoticeKind) (pig station trap : Option Nat) (detail : List Field) : (p.notify kind pig station trap detail).out = p.out := rfl

/-! ## `Part.answer` -/

@[simp] theorem Part.answer_power (p : Part) (f : Frame) (code : ReplyCode) (fields : List Field) : (p.answer f code fields).power = p.power := rfl
@[simp] theorem Part.answer_clocks (p : Part) (f : Frame) (code : ReplyCode) (fields : List Field) : (p.answer f code fields).clocks = p.clocks := rfl
@[simp] theorem Part.answer_link (p : Part) (f : Frame) (code : ReplyCode) (fields : List Field) : (p.answer f code fields).link = p.link := rfl
@[simp] theorem Part.answer_lineMap (p : Part) (f : Frame) (code : ReplyCode) (fields : List Field) : (p.answer f code fields).lineMap = p.lineMap := rfl
@[simp] theorem Part.answer_meters (p : Part) (f : Frame) (code : ReplyCode) (fields : List Field) : (p.answer f code fields).meters = p.meters := rfl
@[simp] theorem Part.answer_run (p : Part) (f : Frame) (code : ReplyCode) (fields : List Field) : (p.answer f code fields).run = p.run := rfl
@[simp] theorem Part.answer_attr (p : Part) (f : Frame) (code : ReplyCode) (fields : List Field) : (p.answer f code fields).attr = p.attr := rfl
@[simp] theorem Part.answer_traps (p : Part) (f : Frame) (code : ReplyCode) (fields : List Field) : (p.answer f code fields).traps = p.traps := rfl
@[simp] theorem Part.answer_cmds (p : Part) (f : Frame) (code : ReplyCode) (fields : List Field) : (p.answer f code fields).cmds = p.cmds := rfl
@[simp] theorem Part.answer_ports (p : Part) (f : Frame) (code : ReplyCode) (fields : List Field) : (p.answer f code fields).ports = p.ports := rfl
@[simp] theorem Part.answer_records (p : Part) (f : Frame) (code : ReplyCode) (fields : List Field) : (p.answer f code fields).records = p.records := rfl

/-! ## `Part.setTrap` -/

@[simp] theorem Part.setTrap_power (p : Part) (t : Nat) (f : TrapRec → TrapRec) : (p.setTrap t f).power = p.power := rfl
@[simp] theorem Part.setTrap_clocks (p : Part) (t : Nat) (f : TrapRec → TrapRec) : (p.setTrap t f).clocks = p.clocks := rfl
@[simp] theorem Part.setTrap_link (p : Part) (t : Nat) (f : TrapRec → TrapRec) : (p.setTrap t f).link = p.link := rfl
@[simp] theorem Part.setTrap_lineMap (p : Part) (t : Nat) (f : TrapRec → TrapRec) : (p.setTrap t f).lineMap = p.lineMap := rfl
@[simp] theorem Part.setTrap_meters (p : Part) (t : Nat) (f : TrapRec → TrapRec) : (p.setTrap t f).meters = p.meters := rfl
@[simp] theorem Part.setTrap_run (p : Part) (t : Nat) (f : TrapRec → TrapRec) : (p.setTrap t f).run = p.run := rfl
@[simp] theorem Part.setTrap_attr (p : Part) (t : Nat) (f : TrapRec → TrapRec) : (p.setTrap t f).attr = p.attr := rfl
@[simp] theorem Part.setTrap_cmds (p : Part) (t : Nat) (f : TrapRec → TrapRec) : (p.setTrap t f).cmds = p.cmds := rfl
@[simp] theorem Part.setTrap_ports (p : Part) (t : Nat) (f : TrapRec → TrapRec) : (p.setTrap t f).ports = p.ports := rfl
@[simp] theorem Part.setTrap_records (p : Part) (t : Nat) (f : TrapRec → TrapRec) : (p.setTrap t f).records = p.records := rfl
@[simp] theorem Part.setTrap_out (p : Part) (t : Nat) (f : TrapRec → TrapRec) : (p.setTrap t f).out = p.out := rfl

/-! ## `Part.setAttr` -/

@[simp] theorem Part.setAttr_power (p : Part) (n : Nat) (f : StationAttr → StationAttr) : (p.setAttr n f).power = p.power := rfl
@[simp] theorem Part.setAttr_clocks (p : Part) (n : Nat) (f : StationAttr → StationAttr) : (p.setAttr n f).clocks = p.clocks := rfl
@[simp] theorem Part.setAttr_link (p : Part) (n : Nat) (f : StationAttr → StationAttr) : (p.setAttr n f).link = p.link := rfl
@[simp] theorem Part.setAttr_lineMap (p : Part) (n : Nat) (f : StationAttr → StationAttr) : (p.setAttr n f).lineMap = p.lineMap := rfl
@[simp] theorem Part.setAttr_meters (p : Part) (n : Nat) (f : StationAttr → StationAttr) : (p.setAttr n f).meters = p.meters := rfl
@[simp] theorem Part.setAttr_run (p : Part) (n : Nat) (f : StationAttr → StationAttr) : (p.setAttr n f).run = p.run := rfl
@[simp] theorem Part.setAttr_traps (p : Part) (n : Nat) (f : StationAttr → StationAttr) : (p.setAttr n f).traps = p.traps := rfl
@[simp] theorem Part.setAttr_cmds (p : Part) (n : Nat) (f : StationAttr → StationAttr) : (p.setAttr n f).cmds = p.cmds := rfl
@[simp] theorem Part.setAttr_ports (p : Part) (n : Nat) (f : StationAttr → StationAttr) : (p.setAttr n f).ports = p.ports := rfl
@[simp] theorem Part.setAttr_records (p : Part) (n : Nat) (f : StationAttr → StationAttr) : (p.setAttr n f).records = p.records := rfl
@[simp] theorem Part.setAttr_out (p : Part) (n : Nat) (f : StationAttr → StationAttr) : (p.setAttr n f).out = p.out := rfl

/-! ## `Part.setAwaited` -/

@[simp] theorem Part.setAwaited_power (p : Part) (t : Nat) (l : List Nat) : (p.setAwaited t l).power = p.power := rfl
@[simp] theorem Part.setAwaited_clocks (p : Part) (t : Nat) (l : List Nat) : (p.setAwaited t l).clocks = p.clocks := rfl
@[simp] theorem Part.setAwaited_link (p : Part) (t : Nat) (l : List Nat) : (p.setAwaited t l).link = p.link := rfl
@[simp] theorem Part.setAwaited_lineMap (p : Part) (t : Nat) (l : List Nat) : (p.setAwaited t l).lineMap = p.lineMap := rfl
@[simp] theorem Part.setAwaited_meters (p : Part) (t : Nat) (l : List Nat) : (p.setAwaited t l).meters = p.meters := rfl
@[simp] theorem Part.setAwaited_run (p : Part) (t : Nat) (l : List Nat) : (p.setAwaited t l).run = p.run := rfl
@[simp] theorem Part.setAwaited_traps (p : Part) (t : Nat) (l : List Nat) : (p.setAwaited t l).traps = p.traps := rfl
@[simp] theorem Part.setAwaited_cmds (p : Part) (t : Nat) (l : List Nat) : (p.setAwaited t l).cmds = p.cmds := rfl
@[simp] theorem Part.setAwaited_ports (p : Part) (t : Nat) (l : List Nat) : (p.setAwaited t l).ports = p.ports := rfl
@[simp] theorem Part.setAwaited_records (p : Part) (t : Nat) (l : List Nat) : (p.setAwaited t l).records = p.records := rfl
@[simp] theorem Part.setAwaited_out (p : Part) (t : Nat) (l : List Nat) : (p.setAwaited t l).out = p.out := rfl

/-! ## `Part.setMeter` -/

@[simp] theorem Part.setMeter_power (p : Part) (n : Nat) (f : MeterRec → MeterRec) : (p.setMeter n f).power = p.power := rfl
@[simp] theorem Part.setMeter_clocks (p : Part) (n : Nat) (f : MeterRec → MeterRec) : (p.setMeter n f).clocks = p.clocks := rfl
@[simp] theorem Part.setMeter_link (p : Part) (n : Nat) (f : MeterRec → MeterRec) : (p.setMeter n f).link = p.link := rfl
@[simp] theorem Part.setMeter_lineMap (p : Part) (n : Nat) (f : MeterRec → MeterRec) : (p.setMeter n f).lineMap = p.lineMap := rfl
@[simp] theorem Part.setMeter_run (p : Part) (n : Nat) (f : MeterRec → MeterRec) : (p.setMeter n f).run = p.run := rfl
@[simp] theorem Part.setMeter_attr (p : Part) (n : Nat) (f : MeterRec → MeterRec) : (p.setMeter n f).attr = p.attr := rfl
@[simp] theorem Part.setMeter_traps (p : Part) (n : Nat) (f : MeterRec → MeterRec) : (p.setMeter n f).traps = p.traps := rfl
@[simp] theorem Part.setMeter_cmds (p : Part) (n : Nat) (f : MeterRec → MeterRec) : (p.setMeter n f).cmds = p.cmds := rfl
@[simp] theorem Part.setMeter_ports (p : Part) (n : Nat) (f : MeterRec → MeterRec) : (p.setMeter n f).ports = p.ports := rfl
@[simp] theorem Part.setMeter_records (p : Part) (n : Nat) (f : MeterRec → MeterRec) : (p.setMeter n f).records = p.records := rfl
@[simp] theorem Part.setMeter_out (p : Part) (n : Nat) (f : MeterRec → MeterRec) : (p.setMeter n f).out = p.out := rfl

/-! ## `Part.setSection` -/

@[simp] theorem Part.setSection_power (p : Part) (k : Nat) (f : SectionRec → SectionRec) : (p.setSection k f).power = p.power := rfl
@[simp] theorem Part.setSection_clocks (p : Part) (k : Nat) (f : SectionRec → SectionRec) : (p.setSection k f).clocks = p.clocks := rfl
@[simp] theorem Part.setSection_link (p : Part) (k : Nat) (f : SectionRec → SectionRec) : (p.setSection k f).link = p.link := rfl
@[simp] theorem Part.setSection_lineMap (p : Part) (k : Nat) (f : SectionRec → SectionRec) : (p.setSection k f).lineMap = p.lineMap := rfl
@[simp] theorem Part.setSection_run (p : Part) (k : Nat) (f : SectionRec → SectionRec) : (p.setSection k f).run = p.run := rfl
@[simp] theorem Part.setSection_attr (p : Part) (k : Nat) (f : SectionRec → SectionRec) : (p.setSection k f).attr = p.attr := rfl
@[simp] theorem Part.setSection_traps (p : Part) (k : Nat) (f : SectionRec → SectionRec) : (p.setSection k f).traps = p.traps := rfl
@[simp] theorem Part.setSection_cmds (p : Part) (k : Nat) (f : SectionRec → SectionRec) : (p.setSection k f).cmds = p.cmds := rfl
@[simp] theorem Part.setSection_ports (p : Part) (k : Nat) (f : SectionRec → SectionRec) : (p.setSection k f).ports = p.ports := rfl
@[simp] theorem Part.setSection_records (p : Part) (k : Nat) (f : SectionRec → SectionRec) : (p.setSection k f).records = p.records := rfl
@[simp] theorem Part.setSection_out (p : Part) (k : Nat) (f : SectionRec → SectionRec) : (p.setSection k f).out = p.out := rfl

/-! ## `Part.setPort` -/

@[simp] theorem Part.setPort_power (p : Part) (i : Fin 4) (f : PortRec → PortRec) : (p.setPort i f).power = p.power := rfl
@[simp] theorem Part.setPort_clocks (p : Part) (i : Fin 4) (f : PortRec → PortRec) : (p.setPort i f).clocks = p.clocks := rfl
@[simp] theorem Part.setPort_link (p : Part) (i : Fin 4) (f : PortRec → PortRec) : (p.setPort i f).link = p.link := rfl
@[simp] theorem Part.setPort_lineMap (p : Part) (i : Fin 4) (f : PortRec → PortRec) : (p.setPort i f).lineMap = p.lineMap := rfl
@[simp] theorem Part.setPort_meters (p : Part) (i : Fin 4) (f : PortRec → PortRec) : (p.setPort i f).meters = p.meters := rfl
@[simp] theorem Part.setPort_run (p : Part) (i : Fin 4) (f : PortRec → PortRec) : (p.setPort i f).run = p.run := rfl
@[simp] theorem Part.setPort_attr (p : Part) (i : Fin 4) (f : PortRec → PortRec) : (p.setPort i f).attr = p.attr := rfl
@[simp] theorem Part.setPort_traps (p : Part) (i : Fin 4) (f : PortRec → PortRec) : (p.setPort i f).traps = p.traps := rfl
@[simp] theorem Part.setPort_cmds (p : Part) (i : Fin 4) (f : PortRec → PortRec) : (p.setPort i f).cmds = p.cmds := rfl
@[simp] theorem Part.setPort_records (p : Part) (i : Fin 4) (f : PortRec → PortRec) : (p.setPort i f).records = p.records := rfl
@[simp] theorem Part.setPort_out (p : Part) (i : Fin 4) (f : PortRec → PortRec) : (p.setPort i f).out = p.out := rfl

/-! ## `Part.setLive` -/

@[simp] theorem Part.setLive_power (p : Part) (x : Nat) (f : StationLive → StationLive) : (p.setLive x f).power = p.power := rfl
@[simp] theorem Part.setLive_clocks (p : Part) (x : Nat) (f : StationLive → StationLive) : (p.setLive x f).clocks = p.clocks := rfl
@[simp] theorem Part.setLive_link (p : Part) (x : Nat) (f : StationLive → StationLive) : (p.setLive x f).link = p.link := rfl
@[simp] theorem Part.setLive_lineMap (p : Part) (x : Nat) (f : StationLive → StationLive) : (p.setLive x f).lineMap = p.lineMap := rfl
@[simp] theorem Part.setLive_meters (p : Part) (x : Nat) (f : StationLive → StationLive) : (p.setLive x f).meters = p.meters := rfl
@[simp] theorem Part.setLive_run (p : Part) (x : Nat) (f : StationLive → StationLive) : (p.setLive x f).run = p.run := rfl
@[simp] theorem Part.setLive_attr (p : Part) (x : Nat) (f : StationLive → StationLive) : (p.setLive x f).attr = p.attr := rfl
@[simp] theorem Part.setLive_traps (p : Part) (x : Nat) (f : StationLive → StationLive) : (p.setLive x f).traps = p.traps := rfl
@[simp] theorem Part.setLive_cmds (p : Part) (x : Nat) (f : StationLive → StationLive) : (p.setLive x f).cmds = p.cmds := rfl
@[simp] theorem Part.setLive_records (p : Part) (x : Nat) (f : StationLive → StationLive) : (p.setLive x f).records = p.records := rfl
@[simp] theorem Part.setLive_out (p : Part) (x : Nat) (f : StationLive → StationLive) : (p.setLive x f).out = p.out := rfl

/-! ## `Part.setPig` -/

@[simp] theorem Part.setPig_power (p : Part) (g : Pig) : (p.setPig g).power = p.power := rfl
@[simp] theorem Part.setPig_clocks (p : Part) (g : Pig) : (p.setPig g).clocks = p.clocks := rfl
@[simp] theorem Part.setPig_link (p : Part) (g : Pig) : (p.setPig g).link = p.link := rfl
@[simp] theorem Part.setPig_lineMap (p : Part) (g : Pig) : (p.setPig g).lineMap = p.lineMap := rfl
@[simp] theorem Part.setPig_meters (p : Part) (g : Pig) : (p.setPig g).meters = p.meters := rfl
@[simp] theorem Part.setPig_attr (p : Part) (g : Pig) : (p.setPig g).attr = p.attr := rfl
@[simp] theorem Part.setPig_traps (p : Part) (g : Pig) : (p.setPig g).traps = p.traps := rfl
@[simp] theorem Part.setPig_cmds (p : Part) (g : Pig) : (p.setPig g).cmds = p.cmds := rfl
@[simp] theorem Part.setPig_ports (p : Part) (g : Pig) : (p.setPig g).ports = p.ports := rfl
@[simp] theorem Part.setPig_records (p : Part) (g : Pig) : (p.setPig g).records = p.records := rfl
@[simp] theorem Part.setPig_out (p : Part) (g : Pig) : (p.setPig g).out = p.out := rfl

/-! ## `Part.setCmd` -/

@[simp] theorem Part.setCmd_power (p : Part) (station slot : Nat) (f : Cmd → Cmd) : (p.setCmd station slot f).power = p.power := rfl
@[simp] theorem Part.setCmd_clocks (p : Part) (station slot : Nat) (f : Cmd → Cmd) : (p.setCmd station slot f).clocks = p.clocks := rfl
@[simp] theorem Part.setCmd_link (p : Part) (station slot : Nat) (f : Cmd → Cmd) : (p.setCmd station slot f).link = p.link := rfl
@[simp] theorem Part.setCmd_lineMap (p : Part) (station slot : Nat) (f : Cmd → Cmd) : (p.setCmd station slot f).lineMap = p.lineMap := rfl
@[simp] theorem Part.setCmd_meters (p : Part) (station slot : Nat) (f : Cmd → Cmd) : (p.setCmd station slot f).meters = p.meters := rfl
@[simp] theorem Part.setCmd_run (p : Part) (station slot : Nat) (f : Cmd → Cmd) : (p.setCmd station slot f).run = p.run := rfl
@[simp] theorem Part.setCmd_attr (p : Part) (station slot : Nat) (f : Cmd → Cmd) : (p.setCmd station slot f).attr = p.attr := rfl
@[simp] theorem Part.setCmd_traps (p : Part) (station slot : Nat) (f : Cmd → Cmd) : (p.setCmd station slot f).traps = p.traps := rfl
@[simp] theorem Part.setCmd_ports (p : Part) (station slot : Nat) (f : Cmd → Cmd) : (p.setCmd station slot f).ports = p.ports := rfl
@[simp] theorem Part.setCmd_records (p : Part) (station slot : Nat) (f : Cmd → Cmd) : (p.setCmd station slot f).records = p.records := rfl
@[simp] theorem Part.setCmd_out (p : Part) (station slot : Nat) (f : Cmd → Cmd) : (p.setCmd station slot f).out = p.out := rfl

/-! ## `Part.edit` -/

@[simp] theorem Part.edit_power (p : Part) (m : MapCopy) : (p.edit m).power = p.power := rfl
@[simp] theorem Part.edit_clocks (p : Part) (m : MapCopy) : (p.edit m).clocks = p.clocks := rfl
@[simp] theorem Part.edit_link (p : Part) (m : MapCopy) : (p.edit m).link = p.link := rfl
@[simp] theorem Part.edit_meters (p : Part) (m : MapCopy) : (p.edit m).meters = p.meters := rfl
@[simp] theorem Part.edit_run (p : Part) (m : MapCopy) : (p.edit m).run = p.run := rfl
@[simp] theorem Part.edit_attr (p : Part) (m : MapCopy) : (p.edit m).attr = p.attr := rfl
@[simp] theorem Part.edit_traps (p : Part) (m : MapCopy) : (p.edit m).traps = p.traps := rfl
@[simp] theorem Part.edit_cmds (p : Part) (m : MapCopy) : (p.edit m).cmds = p.cmds := rfl
@[simp] theorem Part.edit_ports (p : Part) (m : MapCopy) : (p.edit m).ports = p.ports := rfl
@[simp] theorem Part.edit_records (p : Part) (m : MapCopy) : (p.edit m).records = p.records := rfl
@[simp] theorem Part.edit_out (p : Part) (m : MapCopy) : (p.edit m).out = p.out := rfl

/-! ## `Part.track` -/

@[simp] theorem Part.track_power (p : Part) : (p.track).power = p.power := rfl
@[simp] theorem Part.track_clocks (p : Part) : (p.track).clocks = p.clocks := rfl
@[simp] theorem Part.track_lineMap (p : Part) : (p.track).lineMap = p.lineMap := rfl
@[simp] theorem Part.track_meters (p : Part) : (p.track).meters = p.meters := rfl
@[simp] theorem Part.track_run (p : Part) : (p.track).run = p.run := rfl
@[simp] theorem Part.track_attr (p : Part) : (p.track).attr = p.attr := rfl
@[simp] theorem Part.track_traps (p : Part) : (p.track).traps = p.traps := rfl
@[simp] theorem Part.track_cmds (p : Part) : (p.track).cmds = p.cmds := rfl
@[simp] theorem Part.track_ports (p : Part) : (p.track).ports = p.ports := rfl
@[simp] theorem Part.track_records (p : Part) : (p.track).records = p.records := rfl
@[simp] theorem Part.track_out (p : Part) : (p.track).out = p.out := rfl

/-! ## `Part.setCursor` -/

@[simp] theorem Part.setCursor_power (p : Part) (c : Cursor) : (p.setCursor c).power = p.power := rfl
@[simp] theorem Part.setCursor_clocks (p : Part) (c : Cursor) : (p.setCursor c).clocks = p.clocks := rfl
@[simp] theorem Part.setCursor_link (p : Part) (c : Cursor) : (p.setCursor c).link = p.link := rfl
@[simp] theorem Part.setCursor_lineMap (p : Part) (c : Cursor) : (p.setCursor c).lineMap = p.lineMap := rfl
@[simp] theorem Part.setCursor_meters (p : Part) (c : Cursor) : (p.setCursor c).meters = p.meters := rfl
@[simp] theorem Part.setCursor_run (p : Part) (c : Cursor) : (p.setCursor c).run = p.run := rfl
@[simp] theorem Part.setCursor_attr (p : Part) (c : Cursor) : (p.setCursor c).attr = p.attr := rfl
@[simp] theorem Part.setCursor_traps (p : Part) (c : Cursor) : (p.setCursor c).traps = p.traps := rfl
@[simp] theorem Part.setCursor_cmds (p : Part) (c : Cursor) : (p.setCursor c).cmds = p.cmds := rfl
@[simp] theorem Part.setCursor_ports (p : Part) (c : Cursor) : (p.setCursor c).ports = p.ports := rfl
@[simp] theorem Part.setCursor_out (p : Part) (c : Cursor) : (p.setCursor c).out = p.out := rfl

/-! ## `Part.entry` -/

@[simp] theorem Part.entry_power (p : Part) (id : Nat) (kind : EntryKind) (point : Point) (P M : Option Nat) (slip : Nat) : (p.entry id kind point P M slip).power = p.power := rfl
@[simp] theorem Part.entry_clocks (p : Part) (id : Nat) (kind : EntryKind) (point : Point) (P M : Option Nat) (slip : Nat) : (p.entry id kind point P M slip).clocks = p.clocks := rfl
@[simp] theorem Part.entry_link (p : Part) (id : Nat) (kind : EntryKind) (point : Point) (P M : Option Nat) (slip : Nat) : (p.entry id kind point P M slip).link = p.link := rfl
@[simp] theorem Part.entry_lineMap (p : Part) (id : Nat) (kind : EntryKind) (point : Point) (P M : Option Nat) (slip : Nat) : (p.entry id kind point P M slip).lineMap = p.lineMap := rfl
@[simp] theorem Part.entry_meters (p : Part) (id : Nat) (kind : EntryKind) (point : Point) (P M : Option Nat) (slip : Nat) : (p.entry id kind point P M slip).meters = p.meters := rfl
@[simp] theorem Part.entry_run (p : Part) (id : Nat) (kind : EntryKind) (point : Point) (P M : Option Nat) (slip : Nat) : (p.entry id kind point P M slip).run = p.run := rfl
@[simp] theorem Part.entry_attr (p : Part) (id : Nat) (kind : EntryKind) (point : Point) (P M : Option Nat) (slip : Nat) : (p.entry id kind point P M slip).attr = p.attr := rfl
@[simp] theorem Part.entry_traps (p : Part) (id : Nat) (kind : EntryKind) (point : Point) (P M : Option Nat) (slip : Nat) : (p.entry id kind point P M slip).traps = p.traps := rfl
@[simp] theorem Part.entry_cmds (p : Part) (id : Nat) (kind : EntryKind) (point : Point) (P M : Option Nat) (slip : Nat) : (p.entry id kind point P M slip).cmds = p.cmds := rfl
@[simp] theorem Part.entry_ports (p : Part) (id : Nat) (kind : EntryKind) (point : Point) (P M : Option Nat) (slip : Nat) : (p.entry id kind point P M slip).ports = p.ports := rfl
@[simp] theorem Part.entry_out (p : Part) (id : Nat) (kind : EntryKind) (point : Point) (P M : Option Nat) (slip : Nat) : (p.entry id kind point P M slip).out = p.out := rfl

/-! ## `Part.openRecord` -/

@[simp] theorem Part.openRecord_power (p : Part) (id tag : Nat) (kind : PigKind) (location : Location) : (p.openRecord id tag kind location).power = p.power := rfl
@[simp] theorem Part.openRecord_clocks (p : Part) (id tag : Nat) (kind : PigKind) (location : Location) : (p.openRecord id tag kind location).clocks = p.clocks := rfl
@[simp] theorem Part.openRecord_link (p : Part) (id tag : Nat) (kind : PigKind) (location : Location) : (p.openRecord id tag kind location).link = p.link := rfl
@[simp] theorem Part.openRecord_lineMap (p : Part) (id tag : Nat) (kind : PigKind) (location : Location) : (p.openRecord id tag kind location).lineMap = p.lineMap := rfl
@[simp] theorem Part.openRecord_meters (p : Part) (id tag : Nat) (kind : PigKind) (location : Location) : (p.openRecord id tag kind location).meters = p.meters := rfl
@[simp] theorem Part.openRecord_run (p : Part) (id tag : Nat) (kind : PigKind) (location : Location) : (p.openRecord id tag kind location).run = p.run := rfl
@[simp] theorem Part.openRecord_attr (p : Part) (id tag : Nat) (kind : PigKind) (location : Location) : (p.openRecord id tag kind location).attr = p.attr := rfl
@[simp] theorem Part.openRecord_traps (p : Part) (id tag : Nat) (kind : PigKind) (location : Location) : (p.openRecord id tag kind location).traps = p.traps := rfl
@[simp] theorem Part.openRecord_cmds (p : Part) (id tag : Nat) (kind : PigKind) (location : Location) : (p.openRecord id tag kind location).cmds = p.cmds := rfl
@[simp] theorem Part.openRecord_ports (p : Part) (id tag : Nat) (kind : PigKind) (location : Location) : (p.openRecord id tag kind location).ports = p.ports := rfl
@[simp] theorem Part.openRecord_out (p : Part) (id tag : Nat) (kind : PigKind) (location : Location) : (p.openRecord id tag kind location).out = p.out := rfl

/-! ## `Part.locate` -/

@[simp] theorem Part.locate_power (p : Part) (id : Nat) (location : Location) : (p.locate id location).power = p.power := rfl
@[simp] theorem Part.locate_clocks (p : Part) (id : Nat) (location : Location) : (p.locate id location).clocks = p.clocks := rfl
@[simp] theorem Part.locate_link (p : Part) (id : Nat) (location : Location) : (p.locate id location).link = p.link := rfl
@[simp] theorem Part.locate_lineMap (p : Part) (id : Nat) (location : Location) : (p.locate id location).lineMap = p.lineMap := rfl
@[simp] theorem Part.locate_meters (p : Part) (id : Nat) (location : Location) : (p.locate id location).meters = p.meters := rfl
@[simp] theorem Part.locate_run (p : Part) (id : Nat) (location : Location) : (p.locate id location).run = p.run := rfl
@[simp] theorem Part.locate_attr (p : Part) (id : Nat) (location : Location) : (p.locate id location).attr = p.attr := rfl
@[simp] theorem Part.locate_traps (p : Part) (id : Nat) (location : Location) : (p.locate id location).traps = p.traps := rfl
@[simp] theorem Part.locate_cmds (p : Part) (id : Nat) (location : Location) : (p.locate id location).cmds = p.cmds := rfl
@[simp] theorem Part.locate_ports (p : Part) (id : Nat) (location : Location) : (p.locate id location).ports = p.ports := rfl
@[simp] theorem Part.locate_out (p : Part) (id : Nat) (location : Location) : (p.locate id location).out = p.out := rfl

/-! ## `Part.complete` -/

@[simp] theorem Part.complete_power (p : Part) (id : Nat) (outcome : Result) : (p.complete id outcome).power = p.power := by unfold Part.complete; split <;> rfl
@[simp] theorem Part.complete_clocks (p : Part) (id : Nat) (outcome : Result) : (p.complete id outcome).clocks = p.clocks := by unfold Part.complete; split <;> rfl
@[simp] theorem Part.complete_link (p : Part) (id : Nat) (outcome : Result) : (p.complete id outcome).link = p.link := by unfold Part.complete; split <;> rfl
@[simp] theorem Part.complete_lineMap (p : Part) (id : Nat) (outcome : Result) : (p.complete id outcome).lineMap = p.lineMap := by unfold Part.complete; split <;> rfl
@[simp] theorem Part.complete_meters (p : Part) (id : Nat) (outcome : Result) : (p.complete id outcome).meters = p.meters := by unfold Part.complete; split <;> rfl
@[simp] theorem Part.complete_run (p : Part) (id : Nat) (outcome : Result) : (p.complete id outcome).run = p.run := by unfold Part.complete; split <;> rfl
@[simp] theorem Part.complete_attr (p : Part) (id : Nat) (outcome : Result) : (p.complete id outcome).attr = p.attr := by unfold Part.complete; split <;> rfl
@[simp] theorem Part.complete_traps (p : Part) (id : Nat) (outcome : Result) : (p.complete id outcome).traps = p.traps := by unfold Part.complete; split <;> rfl
@[simp] theorem Part.complete_cmds (p : Part) (id : Nat) (outcome : Result) : (p.complete id outcome).cmds = p.cmds := by unfold Part.complete; split <;> rfl
@[simp] theorem Part.complete_ports (p : Part) (id : Nat) (outcome : Result) : (p.complete id outcome).ports = p.ports := by unfold Part.complete; split <;> rfl
@[simp] theorem Part.complete_out (p : Part) (id : Nat) (outcome : Result) : (p.complete id outcome).out = p.out := by unfold Part.complete; split <;> rfl

/-! ## `Part.leaveStation` -/

@[simp] theorem Part.leaveStation_power (p : Part) (n id : Nat) : (p.leaveStation n id).power = p.power := rfl
@[simp] theorem Part.leaveStation_clocks (p : Part) (n id : Nat) : (p.leaveStation n id).clocks = p.clocks := rfl
@[simp] theorem Part.leaveStation_link (p : Part) (n id : Nat) : (p.leaveStation n id).link = p.link := rfl
@[simp] theorem Part.leaveStation_lineMap (p : Part) (n id : Nat) : (p.leaveStation n id).lineMap = p.lineMap := rfl
@[simp] theorem Part.leaveStation_meters (p : Part) (n id : Nat) : (p.leaveStation n id).meters = p.meters := rfl
@[simp] theorem Part.leaveStation_run (p : Part) (n id : Nat) : (p.leaveStation n id).run = p.run := rfl
@[simp] theorem Part.leaveStation_traps (p : Part) (n id : Nat) : (p.leaveStation n id).traps = p.traps := rfl
@[simp] theorem Part.leaveStation_cmds (p : Part) (n id : Nat) : (p.leaveStation n id).cmds = p.cmds := rfl
@[simp] theorem Part.leaveStation_ports (p : Part) (n id : Nat) : (p.leaveStation n id).ports = p.ports := rfl
@[simp] theorem Part.leaveStation_records (p : Part) (n id : Nat) : (p.leaveStation n id).records = p.records := rfl
@[simp] theorem Part.leaveStation_out (p : Part) (n id : Nat) : (p.leaveStation n id).out = p.out := rfl

/-! ## `Part.dropCmd` -/

@[simp] theorem Part.dropCmd_power (p : Part) (c : Cmd) : (p.dropCmd c).power = p.power := rfl
@[simp] theorem Part.dropCmd_clocks (p : Part) (c : Cmd) : (p.dropCmd c).clocks = p.clocks := rfl
@[simp] theorem Part.dropCmd_link (p : Part) (c : Cmd) : (p.dropCmd c).link = p.link := rfl
@[simp] theorem Part.dropCmd_lineMap (p : Part) (c : Cmd) : (p.dropCmd c).lineMap = p.lineMap := rfl
@[simp] theorem Part.dropCmd_meters (p : Part) (c : Cmd) : (p.dropCmd c).meters = p.meters := rfl
@[simp] theorem Part.dropCmd_run (p : Part) (c : Cmd) : (p.dropCmd c).run = p.run := rfl
@[simp] theorem Part.dropCmd_attr (p : Part) (c : Cmd) : (p.dropCmd c).attr = p.attr := rfl
@[simp] theorem Part.dropCmd_traps (p : Part) (c : Cmd) : (p.dropCmd c).traps = p.traps := rfl
@[simp] theorem Part.dropCmd_records (p : Part) (c : Cmd) : (p.dropCmd c).records = p.records := rfl
@[simp] theorem Part.dropCmd_out (p : Part) (c : Cmd) : (p.dropCmd c).out = p.out := rfl

/-! ## `Part.setCond` -/

@[simp] theorem Part.setCond_power (p : Part) (t slot : Nat) (action : Action) (cond : StepCond) : (p.setCond t slot action cond).power = p.power := by unfold Part.setCond; split <;> rfl
@[simp] theorem Part.setCond_clocks (p : Part) (t slot : Nat) (action : Action) (cond : StepCond) : (p.setCond t slot action cond).clocks = p.clocks := by unfold Part.setCond; split <;> rfl
@[simp] theorem Part.setCond_link (p : Part) (t slot : Nat) (action : Action) (cond : StepCond) : (p.setCond t slot action cond).link = p.link := by unfold Part.setCond; split <;> rfl
@[simp] theorem Part.setCond_lineMap (p : Part) (t slot : Nat) (action : Action) (cond : StepCond) : (p.setCond t slot action cond).lineMap = p.lineMap := by unfold Part.setCond; split <;> rfl
@[simp] theorem Part.setCond_meters (p : Part) (t slot : Nat) (action : Action) (cond : StepCond) : (p.setCond t slot action cond).meters = p.meters := by unfold Part.setCond; split <;> rfl
@[simp] theorem Part.setCond_run (p : Part) (t slot : Nat) (action : Action) (cond : StepCond) : (p.setCond t slot action cond).run = p.run := by unfold Part.setCond; split <;> rfl
@[simp] theorem Part.setCond_attr (p : Part) (t slot : Nat) (action : Action) (cond : StepCond) : (p.setCond t slot action cond).attr = p.attr := by unfold Part.setCond; split <;> rfl
@[simp] theorem Part.setCond_cmds (p : Part) (t slot : Nat) (action : Action) (cond : StepCond) : (p.setCond t slot action cond).cmds = p.cmds := by unfold Part.setCond; split <;> rfl
@[simp] theorem Part.setCond_ports (p : Part) (t slot : Nat) (action : Action) (cond : StepCond) : (p.setCond t slot action cond).ports = p.ports := by unfold Part.setCond; split <;> rfl
@[simp] theorem Part.setCond_records (p : Part) (t slot : Nat) (action : Action) (cond : StepCond) : (p.setCond t slot action cond).records = p.records := by unfold Part.setCond; split <;> rfl
@[simp] theorem Part.setCond_out (p : Part) (t slot : Nat) (action : Action) (cond : StepCond) : (p.setCond t slot action cond).out = p.out := by unfold Part.setCond; split <;> rfl

/-! ## `Part.send` -/

@[simp] theorem Part.send_power (p : Part) (i : Fin 4) (t : Txn) : (p.send i t).power = p.power := rfl
@[simp] theorem Part.send_clocks (p : Part) (i : Fin 4) (t : Txn) : (p.send i t).clocks = p.clocks := rfl
@[simp] theorem Part.send_link (p : Part) (i : Fin 4) (t : Txn) : (p.send i t).link = p.link := rfl
@[simp] theorem Part.send_lineMap (p : Part) (i : Fin 4) (t : Txn) : (p.send i t).lineMap = p.lineMap := rfl
@[simp] theorem Part.send_meters (p : Part) (i : Fin 4) (t : Txn) : (p.send i t).meters = p.meters := rfl
@[simp] theorem Part.send_run (p : Part) (i : Fin 4) (t : Txn) : (p.send i t).run = p.run := rfl
@[simp] theorem Part.send_attr (p : Part) (i : Fin 4) (t : Txn) : (p.send i t).attr = p.attr := rfl
@[simp] theorem Part.send_traps (p : Part) (i : Fin 4) (t : Txn) : (p.send i t).traps = p.traps := rfl
@[simp] theorem Part.send_cmds (p : Part) (i : Fin 4) (t : Txn) : (p.send i t).cmds = p.cmds := rfl
@[simp] theorem Part.send_records (p : Part) (i : Fin 4) (t : Txn) : (p.send i t).records = p.records := rfl
@[simp] theorem Part.send_out (p : Part) (i : Fin 4) (t : Txn) : (p.send i t).out = p.out := rfl

/-! ## `Part.emit` -/

@[simp] theorem Part.emit_power (p : Part) (i : Fin 4) (frame : SecFrame) (whole : Bool) : (p.emit i frame whole).power = p.power := rfl
@[simp] theorem Part.emit_clocks (p : Part) (i : Fin 4) (frame : SecFrame) (whole : Bool) : (p.emit i frame whole).clocks = p.clocks := rfl
@[simp] theorem Part.emit_link (p : Part) (i : Fin 4) (frame : SecFrame) (whole : Bool) : (p.emit i frame whole).link = p.link := rfl
@[simp] theorem Part.emit_lineMap (p : Part) (i : Fin 4) (frame : SecFrame) (whole : Bool) : (p.emit i frame whole).lineMap = p.lineMap := rfl
@[simp] theorem Part.emit_meters (p : Part) (i : Fin 4) (frame : SecFrame) (whole : Bool) : (p.emit i frame whole).meters = p.meters := rfl
@[simp] theorem Part.emit_run (p : Part) (i : Fin 4) (frame : SecFrame) (whole : Bool) : (p.emit i frame whole).run = p.run := rfl
@[simp] theorem Part.emit_attr (p : Part) (i : Fin 4) (frame : SecFrame) (whole : Bool) : (p.emit i frame whole).attr = p.attr := rfl
@[simp] theorem Part.emit_traps (p : Part) (i : Fin 4) (frame : SecFrame) (whole : Bool) : (p.emit i frame whole).traps = p.traps := rfl
@[simp] theorem Part.emit_cmds (p : Part) (i : Fin 4) (frame : SecFrame) (whole : Bool) : (p.emit i frame whole).cmds = p.cmds := rfl
@[simp] theorem Part.emit_ports (p : Part) (i : Fin 4) (frame : SecFrame) (whole : Bool) : (p.emit i frame whole).ports = p.ports := rfl
@[simp] theorem Part.emit_records (p : Part) (i : Fin 4) (frame : SecFrame) (whole : Bool) : (p.emit i frame whole).records = p.records := rfl

/-! ## `Part.cutOff` -/

@[simp] theorem Part.cutOff_power (p : Part) (i : Fin 4) : (p.cutOff i).power = p.power := by unfold Part.cutOff; split <;> rfl
@[simp] theorem Part.cutOff_clocks (p : Part) (i : Fin 4) : (p.cutOff i).clocks = p.clocks := by unfold Part.cutOff; split <;> rfl
@[simp] theorem Part.cutOff_link (p : Part) (i : Fin 4) : (p.cutOff i).link = p.link := by unfold Part.cutOff; split <;> rfl
@[simp] theorem Part.cutOff_lineMap (p : Part) (i : Fin 4) : (p.cutOff i).lineMap = p.lineMap := by unfold Part.cutOff; split <;> rfl
@[simp] theorem Part.cutOff_meters (p : Part) (i : Fin 4) : (p.cutOff i).meters = p.meters := by unfold Part.cutOff; split <;> rfl
@[simp] theorem Part.cutOff_run (p : Part) (i : Fin 4) : (p.cutOff i).run = p.run := by unfold Part.cutOff; split <;> rfl
@[simp] theorem Part.cutOff_attr (p : Part) (i : Fin 4) : (p.cutOff i).attr = p.attr := by unfold Part.cutOff; split <;> rfl
@[simp] theorem Part.cutOff_traps (p : Part) (i : Fin 4) : (p.cutOff i).traps = p.traps := by unfold Part.cutOff; split <;> rfl
@[simp] theorem Part.cutOff_cmds (p : Part) (i : Fin 4) : (p.cutOff i).cmds = p.cmds := by unfold Part.cutOff; split <;> rfl
@[simp] theorem Part.cutOff_ports (p : Part) (i : Fin 4) : (p.cutOff i).ports = p.ports := by unfold Part.cutOff; split <;> rfl
@[simp] theorem Part.cutOff_records (p : Part) (i : Fin 4) : (p.cutOff i).records = p.records := by unfold Part.cutOff; split <;> rfl

/-! ## `Part.abandonTxn` -/

@[simp] theorem Part.abandonTxn_power (p : Part) (i : Fin 4) : (p.abandonTxn i).power = p.power := by simp [Part.abandonTxn]
@[simp] theorem Part.abandonTxn_clocks (p : Part) (i : Fin 4) : (p.abandonTxn i).clocks = p.clocks := by simp [Part.abandonTxn]
@[simp] theorem Part.abandonTxn_link (p : Part) (i : Fin 4) : (p.abandonTxn i).link = p.link := by simp [Part.abandonTxn]
@[simp] theorem Part.abandonTxn_lineMap (p : Part) (i : Fin 4) : (p.abandonTxn i).lineMap = p.lineMap := by simp [Part.abandonTxn]
@[simp] theorem Part.abandonTxn_meters (p : Part) (i : Fin 4) : (p.abandonTxn i).meters = p.meters := by simp [Part.abandonTxn]
@[simp] theorem Part.abandonTxn_run (p : Part) (i : Fin 4) : (p.abandonTxn i).run = p.run := by simp [Part.abandonTxn]
@[simp] theorem Part.abandonTxn_attr (p : Part) (i : Fin 4) : (p.abandonTxn i).attr = p.attr := by simp [Part.abandonTxn]
@[simp] theorem Part.abandonTxn_traps (p : Part) (i : Fin 4) : (p.abandonTxn i).traps = p.traps := by simp [Part.abandonTxn]
@[simp] theorem Part.abandonTxn_cmds (p : Part) (i : Fin 4) : (p.abandonTxn i).cmds = p.cmds := by simp [Part.abandonTxn]
@[simp] theorem Part.abandonTxn_records (p : Part) (i : Fin 4) : (p.abandonTxn i).records = p.records := by simp [Part.abandonTxn]

/-! ## `Part.endTxn` -/

@[simp] theorem Part.endTxn_power (p : Part) (i : Fin 4) (t : Txn) : (p.endTxn i t).power = p.power := rfl
@[simp] theorem Part.endTxn_clocks (p : Part) (i : Fin 4) (t : Txn) : (p.endTxn i t).clocks = p.clocks := rfl
@[simp] theorem Part.endTxn_link (p : Part) (i : Fin 4) (t : Txn) : (p.endTxn i t).link = p.link := rfl
@[simp] theorem Part.endTxn_lineMap (p : Part) (i : Fin 4) (t : Txn) : (p.endTxn i t).lineMap = p.lineMap := rfl
@[simp] theorem Part.endTxn_meters (p : Part) (i : Fin 4) (t : Txn) : (p.endTxn i t).meters = p.meters := rfl
@[simp] theorem Part.endTxn_run (p : Part) (i : Fin 4) (t : Txn) : (p.endTxn i t).run = p.run := rfl
@[simp] theorem Part.endTxn_attr (p : Part) (i : Fin 4) (t : Txn) : (p.endTxn i t).attr = p.attr := rfl
@[simp] theorem Part.endTxn_traps (p : Part) (i : Fin 4) (t : Txn) : (p.endTxn i t).traps = p.traps := rfl
@[simp] theorem Part.endTxn_cmds (p : Part) (i : Fin 4) (t : Txn) : (p.endTxn i t).cmds = p.cmds := rfl
@[simp] theorem Part.endTxn_records (p : Part) (i : Fin 4) (t : Txn) : (p.endTxn i t).records = p.records := rfl
@[simp] theorem Part.endTxn_out (p : Part) (i : Fin 4) (t : Txn) : (p.endTxn i t).out = p.out := rfl

/-! ## `Part.recordFailure` -/

@[simp] theorem Part.recordFailure_power (p : Part) (i : Fin 4) (t : Txn) (kind : FailKind) : (p.recordFailure i t kind).power = p.power := rfl
@[simp] theorem Part.recordFailure_clocks (p : Part) (i : Fin 4) (t : Txn) (kind : FailKind) : (p.recordFailure i t kind).clocks = p.clocks := rfl
@[simp] theorem Part.recordFailure_link (p : Part) (i : Fin 4) (t : Txn) (kind : FailKind) : (p.recordFailure i t kind).link = p.link := rfl
@[simp] theorem Part.recordFailure_lineMap (p : Part) (i : Fin 4) (t : Txn) (kind : FailKind) : (p.recordFailure i t kind).lineMap = p.lineMap := rfl
@[simp] theorem Part.recordFailure_meters (p : Part) (i : Fin 4) (t : Txn) (kind : FailKind) : (p.recordFailure i t kind).meters = p.meters := rfl
@[simp] theorem Part.recordFailure_run (p : Part) (i : Fin 4) (t : Txn) (kind : FailKind) : (p.recordFailure i t kind).run = p.run := rfl
@[simp] theorem Part.recordFailure_attr (p : Part) (i : Fin 4) (t : Txn) (kind : FailKind) : (p.recordFailure i t kind).attr = p.attr := rfl
@[simp] theorem Part.recordFailure_traps (p : Part) (i : Fin 4) (t : Txn) (kind : FailKind) : (p.recordFailure i t kind).traps = p.traps := rfl
@[simp] theorem Part.recordFailure_cmds (p : Part) (i : Fin 4) (t : Txn) (kind : FailKind) : (p.recordFailure i t kind).cmds = p.cmds := rfl
@[simp] theorem Part.recordFailure_records (p : Part) (i : Fin 4) (t : Txn) (kind : FailKind) : (p.recordFailure i t kind).records = p.records := rfl
@[simp] theorem Part.recordFailure_out (p : Part) (i : Fin 4) (t : Txn) (kind : FailKind) : (p.recordFailure i t kind).out = p.out := rfl

/-! ## `Part.markPassage` -/

@[simp] theorem Part.markPassage_power (p : Part) (x : Nat) : (p.markPassage x).power = p.power := rfl
@[simp] theorem Part.markPassage_clocks (p : Part) (x : Nat) : (p.markPassage x).clocks = p.clocks := rfl
@[simp] theorem Part.markPassage_link (p : Part) (x : Nat) : (p.markPassage x).link = p.link := rfl
@[simp] theorem Part.markPassage_lineMap (p : Part) (x : Nat) : (p.markPassage x).lineMap = p.lineMap := rfl
@[simp] theorem Part.markPassage_meters (p : Part) (x : Nat) : (p.markPassage x).meters = p.meters := rfl
@[simp] theorem Part.markPassage_run (p : Part) (x : Nat) : (p.markPassage x).run = p.run := rfl
@[simp] theorem Part.markPassage_traps (p : Part) (x : Nat) : (p.markPassage x).traps = p.traps := rfl
@[simp] theorem Part.markPassage_cmds (p : Part) (x : Nat) : (p.markPassage x).cmds = p.cmds := rfl
@[simp] theorem Part.markPassage_ports (p : Part) (x : Nat) : (p.markPassage x).ports = p.ports := rfl
@[simp] theorem Part.markPassage_records (p : Part) (x : Nat) : (p.markPassage x).records = p.records := rfl
@[simp] theorem Part.markPassage_out (p : Part) (x : Nat) : (p.markPassage x).out = p.out := rfl

/-! ## The machine around its part -/

@[simp] theorem State.become_part (s : State) (p : Part) : (s.become p).part = p := rfl
@[simp] theorem State.become_pending (s : State) (p : Part) : (s.become p).pending = s.pending := rfl
@[simp] theorem State.become_self (s : State) : s.become s.part = s := rfl
@[simp] theorem State.become_become (s : State) (p q : Part) : (s.become p).become q = s.become q := rfl

/-- A meaning that goes on leaves the waiting commands alone. -/
@[simp] theorem goOn_eq (s : State) (p : Part) : goOn s p = .next (s.become p) := rfl

/-! ## The field that an update changes -/

@[simp] theorem Part.elapseTo_clocks (p : Part) (d : Tick) : (p.elapseTo d).clocks = p.clocks.elapseTo d := rfl
@[simp] theorem Part.answer_replies (p : Part) (f : Frame) (code : ReplyCode) (fields : List Field) :
    (p.answer f code fields).out.replies = p.out.replies ++ [replyTo f code fields] := rfl
@[simp] theorem Part.answer_lines (p : Part) (f : Frame) (code : ReplyCode) (fields : List Field) :
    (p.answer f code fields).out.lines = p.out.lines := rfl
@[simp] theorem Part.setTrap_traps (p : Part) (t : Nat) (f : TrapRec → TrapRec) :
    (p.setTrap t f).traps = Table.modify p.traps t f := rfl
@[simp] theorem Part.setAttr_stations (p : Part) (n : Nat) (f : StationAttr → StationAttr) :
    (p.setAttr n f).attr.stations = Table.modify p.attr.stations n f := rfl
@[simp] theorem Part.setAttr_receivers (p : Part) (n : Nat) (f : StationAttr → StationAttr) :
    (p.setAttr n f).attr.receivers = p.attr.receivers := rfl
@[simp] theorem Part.setMeter_meters_meters (p : Part) (n : Nat) (f : MeterRec → MeterRec) :
    (p.setMeter n f).meters.meters = Table.modify p.meters.meters n f := rfl
@[simp] theorem Part.setMeter_meters_sections (p : Part) (n : Nat) (f : MeterRec → MeterRec) :
    (p.setMeter n f).meters.sections = p.meters.sections := rfl
@[simp] theorem Part.setSection_meters_meters (p : Part) (k : Nat) (f : SectionRec → SectionRec) :
    (p.setSection k f).meters.meters = p.meters.meters := rfl
@[simp] theorem Part.setSection_meters_sections (p : Part) (k : Nat) (f : SectionRec → SectionRec) :
    (p.setSection k f).meters.sections = Table.modify p.meters.sections k f := rfl
@[simp] theorem Part.setPort_port (p : Part) (i : Fin 4) (f : PortRec → PortRec) :
    (p.setPort i f).ports.port = p.ports.port.modify i f := rfl
@[simp] theorem Part.setPort_stations (p : Part) (i : Fin 4) (f : PortRec → PortRec) :
    (p.setPort i f).ports.stations = p.ports.stations := rfl
@[simp] theorem Part.setLive_stations (p : Part) (x : Nat) (f : StationLive → StationLive) :
    (p.setLive x f).ports.stations = Table.modify p.ports.stations x f := rfl
@[simp] theorem Part.setLive_port (p : Part) (x : Nat) (f : StationLive → StationLive) :
    (p.setLive x f).ports.port = p.ports.port := rfl
@[simp] theorem Part.setPig_reservations (p : Part) (g : Pig) : (p.setPig g).run.reservations = p.run.reservations := rfl
@[simp] theorem Part.edit_committed (p : Part) (m : MapCopy) : (p.edit m).lineMap.committed = p.lineMap.committed := rfl
@[simp] theorem Part.edit_working (p : Part) (m : MapCopy) : (p.edit m).lineMap.working = m := rfl
@[simp] theorem Part.notify_mode (p : Part) (kind : NoticeKind) (pig station trap : Option Nat) (detail : List Field) :
    (p.notify kind pig station trap detail).link.mode = p.link.mode := by
  simp only [Part.notify, Link.queue]
  split <;> rfl

/-! ## What the blocks read, after the updates of others -/

@[simp] theorem Part.elapseTo_map (p : Part) (d : Tick) : (p.elapseTo d).map = p.map := rfl
@[simp] theorem Part.elapseTo_running (p : Part) (d : Tick) : (p.elapseTo d).running = p.running := rfl
@[simp] theorem Part.notify_map (p : Part) (kind : NoticeKind) (pig station trap : Option Nat) (detail : List Field) : (p.notify kind pig station trap detail).map = p.map := rfl
@[simp] theorem Part.notify_running (p : Part) (kind : NoticeKind) (pig station trap : Option Nat) (detail : List Field) : (p.notify kind pig station trap detail).running = p.running := rfl
@[simp] theorem Part.notify_stamp (p : Part) (kind : NoticeKind) (pig station trap : Option Nat) (detail : List Field) : (p.notify kind pig station trap detail).stamp = p.stamp := rfl
@[simp] theorem Part.answer_map (p : Part) (f : Frame) (code : ReplyCode) (fields : List Field) : (p.answer f code fields).map = p.map := rfl
@[simp] theorem Part.answer_running (p : Part) (f : Frame) (code : ReplyCode) (fields : List Field) : (p.answer f code fields).running = p.running := rfl
@[simp] theorem Part.answer_stamp (p : Part) (f : Frame) (code : ReplyCode) (fields : List Field) : (p.answer f code fields).stamp = p.stamp := rfl
@[simp] theorem Part.setTrap_map (p : Part) (t : Nat) (f : TrapRec → TrapRec) : (p.setTrap t f).map = p.map := rfl
@[simp] theorem Part.setTrap_running (p : Part) (t : Nat) (f : TrapRec → TrapRec) : (p.setTrap t f).running = p.running := rfl
@[simp] theorem Part.setTrap_stamp (p : Part) (t : Nat) (f : TrapRec → TrapRec) : (p.setTrap t f).stamp = p.stamp := rfl
@[simp] theorem Part.setAttr_map (p : Part) (n : Nat) (f : StationAttr → StationAttr) : (p.setAttr n f).map = p.map := rfl
@[simp] theorem Part.setAttr_running (p : Part) (n : Nat) (f : StationAttr → StationAttr) : (p.setAttr n f).running = p.running := rfl
@[simp] theorem Part.setAttr_stamp (p : Part) (n : Nat) (f : StationAttr → StationAttr) : (p.setAttr n f).stamp = p.stamp := rfl
@[simp] theorem Part.setAwaited_map (p : Part) (t : Nat) (l : List Nat) : (p.setAwaited t l).map = p.map := rfl
@[simp] theorem Part.setAwaited_running (p : Part) (t : Nat) (l : List Nat) : (p.setAwaited t l).running = p.running := rfl
@[simp] theorem Part.setAwaited_stamp (p : Part) (t : Nat) (l : List Nat) : (p.setAwaited t l).stamp = p.stamp := rfl
@[simp] theorem Part.setMeter_map (p : Part) (n : Nat) (f : MeterRec → MeterRec) : (p.setMeter n f).map = p.map := rfl
@[simp] theorem Part.setMeter_running (p : Part) (n : Nat) (f : MeterRec → MeterRec) : (p.setMeter n f).running = p.running := rfl
@[simp] theorem Part.setMeter_stamp (p : Part) (n : Nat) (f : MeterRec → MeterRec) : (p.setMeter n f).stamp = p.stamp := rfl
@[simp] theorem Part.setSection_map (p : Part) (k : Nat) (f : SectionRec → SectionRec) : (p.setSection k f).map = p.map := rfl
@[simp] theorem Part.setSection_running (p : Part) (k : Nat) (f : SectionRec → SectionRec) : (p.setSection k f).running = p.running := rfl
@[simp] theorem Part.setSection_stamp (p : Part) (k : Nat) (f : SectionRec → SectionRec) : (p.setSection k f).stamp = p.stamp := rfl
@[simp] theorem Part.setPort_map (p : Part) (i : Fin 4) (f : PortRec → PortRec) : (p.setPort i f).map = p.map := rfl
@[simp] theorem Part.setPort_running (p : Part) (i : Fin 4) (f : PortRec → PortRec) : (p.setPort i f).running = p.running := rfl
@[simp] theorem Part.setPort_stamp (p : Part) (i : Fin 4) (f : PortRec → PortRec) : (p.setPort i f).stamp = p.stamp := rfl
@[simp] theorem Part.setLive_map (p : Part) (x : Nat) (f : StationLive → StationLive) : (p.setLive x f).map = p.map := rfl
@[simp] theorem Part.setLive_running (p : Part) (x : Nat) (f : StationLive → StationLive) : (p.setLive x f).running = p.running := rfl
@[simp] theorem Part.setLive_stamp (p : Part) (x : Nat) (f : StationLive → StationLive) : (p.setLive x f).stamp = p.stamp := rfl
@[simp] theorem Part.setPig_map (p : Part) (g : Pig) : (p.setPig g).map = p.map := rfl
@[simp] theorem Part.setPig_running (p : Part) (g : Pig) : (p.setPig g).running = p.running := rfl
@[simp] theorem Part.setPig_stamp (p : Part) (g : Pig) : (p.setPig g).stamp = p.stamp := rfl
@[simp] theorem Part.setCmd_map (p : Part) (station slot : Nat) (f : Cmd → Cmd) : (p.setCmd station slot f).map = p.map := rfl
@[simp] theorem Part.setCmd_running (p : Part) (station slot : Nat) (f : Cmd → Cmd) : (p.setCmd station slot f).running = p.running := rfl
@[simp] theorem Part.setCmd_stamp (p : Part) (station slot : Nat) (f : Cmd → Cmd) : (p.setCmd station slot f).stamp = p.stamp := rfl
@[simp] theorem Part.edit_map (p : Part) (m : MapCopy) : (p.edit m).map = p.map := rfl
@[simp] theorem Part.edit_running (p : Part) (m : MapCopy) : (p.edit m).running = p.running := rfl
@[simp] theorem Part.edit_stamp (p : Part) (m : MapCopy) : (p.edit m).stamp = p.stamp := rfl
@[simp] theorem Part.track_map (p : Part) : (p.track).map = p.map := rfl
@[simp] theorem Part.track_running (p : Part) : (p.track).running = p.running := rfl
@[simp] theorem Part.track_stamp (p : Part) : (p.track).stamp = p.stamp := rfl
@[simp] theorem Part.setCursor_map (p : Part) (c : Cursor) : (p.setCursor c).map = p.map := rfl
@[simp] theorem Part.setCursor_running (p : Part) (c : Cursor) : (p.setCursor c).running = p.running := rfl
@[simp] theorem Part.setCursor_stamp (p : Part) (c : Cursor) : (p.setCursor c).stamp = p.stamp := rfl
@[simp] theorem Part.entry_map (p : Part) (id : Nat) (kind : EntryKind) (point : Point) (P M : Option Nat) (slip : Nat) : (p.entry id kind point P M slip).map = p.map := rfl
@[simp] theorem Part.entry_running (p : Part) (id : Nat) (kind : EntryKind) (point : Point) (P M : Option Nat) (slip : Nat) : (p.entry id kind point P M slip).running = p.running := rfl
@[simp] theorem Part.entry_stamp (p : Part) (id : Nat) (kind : EntryKind) (point : Point) (P M : Option Nat) (slip : Nat) : (p.entry id kind point P M slip).stamp = p.stamp := rfl
@[simp] theorem Part.openRecord_map (p : Part) (id tag : Nat) (kind : PigKind) (location : Location) : (p.openRecord id tag kind location).map = p.map := rfl
@[simp] theorem Part.openRecord_running (p : Part) (id tag : Nat) (kind : PigKind) (location : Location) : (p.openRecord id tag kind location).running = p.running := rfl
@[simp] theorem Part.openRecord_stamp (p : Part) (id tag : Nat) (kind : PigKind) (location : Location) : (p.openRecord id tag kind location).stamp = p.stamp := rfl
@[simp] theorem Part.locate_map (p : Part) (id : Nat) (location : Location) : (p.locate id location).map = p.map := rfl
@[simp] theorem Part.locate_running (p : Part) (id : Nat) (location : Location) : (p.locate id location).running = p.running := rfl
@[simp] theorem Part.locate_stamp (p : Part) (id : Nat) (location : Location) : (p.locate id location).stamp = p.stamp := rfl
@[simp] theorem Part.complete_map (p : Part) (id : Nat) (outcome : Result) : (p.complete id outcome).map = p.map := by unfold Part.complete; split <;> rfl
@[simp] theorem Part.complete_running (p : Part) (id : Nat) (outcome : Result) : (p.complete id outcome).running = p.running := by unfold Part.complete; split <;> rfl
@[simp] theorem Part.complete_stamp (p : Part) (id : Nat) (outcome : Result) : (p.complete id outcome).stamp = p.stamp := by unfold Part.complete; split <;> rfl
@[simp] theorem Part.leaveStation_map (p : Part) (n id : Nat) : (p.leaveStation n id).map = p.map := rfl
@[simp] theorem Part.leaveStation_running (p : Part) (n id : Nat) : (p.leaveStation n id).running = p.running := rfl
@[simp] theorem Part.leaveStation_stamp (p : Part) (n id : Nat) : (p.leaveStation n id).stamp = p.stamp := rfl
@[simp] theorem Part.dropCmd_map (p : Part) (c : Cmd) : (p.dropCmd c).map = p.map := rfl
@[simp] theorem Part.dropCmd_running (p : Part) (c : Cmd) : (p.dropCmd c).running = p.running := rfl
@[simp] theorem Part.dropCmd_stamp (p : Part) (c : Cmd) : (p.dropCmd c).stamp = p.stamp := rfl
@[simp] theorem Part.setCond_map (p : Part) (t slot : Nat) (action : Action) (cond : StepCond) : (p.setCond t slot action cond).map = p.map := by unfold Part.setCond; split <;> rfl
@[simp] theorem Part.setCond_running (p : Part) (t slot : Nat) (action : Action) (cond : StepCond) : (p.setCond t slot action cond).running = p.running := by unfold Part.setCond; split <;> rfl
@[simp] theorem Part.setCond_stamp (p : Part) (t slot : Nat) (action : Action) (cond : StepCond) : (p.setCond t slot action cond).stamp = p.stamp := by unfold Part.setCond; split <;> rfl
@[simp] theorem Part.send_map (p : Part) (i : Fin 4) (t : Txn) : (p.send i t).map = p.map := rfl
@[simp] theorem Part.send_running (p : Part) (i : Fin 4) (t : Txn) : (p.send i t).running = p.running := rfl
@[simp] theorem Part.send_stamp (p : Part) (i : Fin 4) (t : Txn) : (p.send i t).stamp = p.stamp := rfl
@[simp] theorem Part.emit_map (p : Part) (i : Fin 4) (frame : SecFrame) (whole : Bool) : (p.emit i frame whole).map = p.map := rfl
@[simp] theorem Part.emit_running (p : Part) (i : Fin 4) (frame : SecFrame) (whole : Bool) : (p.emit i frame whole).running = p.running := rfl
@[simp] theorem Part.emit_stamp (p : Part) (i : Fin 4) (frame : SecFrame) (whole : Bool) : (p.emit i frame whole).stamp = p.stamp := rfl
@[simp] theorem Part.cutOff_map (p : Part) (i : Fin 4) : (p.cutOff i).map = p.map := by unfold Part.cutOff; split <;> rfl
@[simp] theorem Part.cutOff_running (p : Part) (i : Fin 4) : (p.cutOff i).running = p.running := by unfold Part.cutOff; split <;> rfl
@[simp] theorem Part.cutOff_stamp (p : Part) (i : Fin 4) : (p.cutOff i).stamp = p.stamp := by unfold Part.cutOff; split <;> rfl
@[simp] theorem Part.abandonTxn_map (p : Part) (i : Fin 4) : (p.abandonTxn i).map = p.map := by simp [Part.abandonTxn]
@[simp] theorem Part.abandonTxn_running (p : Part) (i : Fin 4) : (p.abandonTxn i).running = p.running := by simp [Part.abandonTxn]
@[simp] theorem Part.abandonTxn_stamp (p : Part) (i : Fin 4) : (p.abandonTxn i).stamp = p.stamp := by simp [Part.abandonTxn]
@[simp] theorem Part.endTxn_map (p : Part) (i : Fin 4) (t : Txn) : (p.endTxn i t).map = p.map := rfl
@[simp] theorem Part.endTxn_running (p : Part) (i : Fin 4) (t : Txn) : (p.endTxn i t).running = p.running := rfl
@[simp] theorem Part.endTxn_stamp (p : Part) (i : Fin 4) (t : Txn) : (p.endTxn i t).stamp = p.stamp := rfl
@[simp] theorem Part.recordFailure_map (p : Part) (i : Fin 4) (t : Txn) (kind : FailKind) : (p.recordFailure i t kind).map = p.map := rfl
@[simp] theorem Part.recordFailure_running (p : Part) (i : Fin 4) (t : Txn) (kind : FailKind) : (p.recordFailure i t kind).running = p.running := rfl
@[simp] theorem Part.recordFailure_stamp (p : Part) (i : Fin 4) (t : Txn) (kind : FailKind) : (p.recordFailure i t kind).stamp = p.stamp := rfl
@[simp] theorem Part.markPassage_map (p : Part) (x : Nat) : (p.markPassage x).map = p.map := rfl
@[simp] theorem Part.markPassage_running (p : Part) (x : Nat) : (p.markPassage x).running = p.running := rfl
@[simp] theorem Part.markPassage_stamp (p : Part) (x : Nat) : (p.markPassage x).stamp = p.stamp := rfl

/-! ## The reset input and a COLD restart (R24, R179) -/

@[simp] theorem Part.setReset_power (p : Part) (r : ResetInput) : (p.setReset r).power = { p.power with resetInput := r } := rfl
@[simp] theorem Part.setReset_lineMap (p : Part) (r : ResetInput) : (p.setReset r).lineMap = p.lineMap := rfl
@[simp] theorem Part.coldOver_power (l : LineMap) (m : Mode) (w : Power) : (Part.coldOver l m w).power = w := rfl
@[simp] theorem Part.coldOver_lineMap (l : LineMap) (m : Mode) (w : Power) : (Part.coldOver l m w).lineMap = l := rfl
@[simp] theorem Part.loseSupply_power (p : Part) (b : Bool) :
    (p.loseSupply b).power = { supplied := false, resetInput := p.power.resetInput } := rfl

/-- A COLD restart gives the COLD values over the loaded map with supply and the input's level, and the ports' first choices unless the
input is held. -/
theorem Part.coldRestart_eq (p : Part) :
    p.coldRestart =
      let q := Part.coldOver p.lineMap.load p.lineMap.coldMode { supplied := true, resetInput := p.power.resetInput }
      if p.power.resetInput = .held then q else q.chooseAll := by
  unfold Part.coldRestart Part.running
  cases h : p.power.resetInput <;> simp

end Sys2Proof.Machine
end

