-- ==== Sys2Proof/Laws/Requests.lean ====
section
/-! SUPPORT. What the shared operations do, each said once: queueing notices, the entries of run records, the clocks, taking and
answering requests, the treatment of one pig, what the section ports log, and which commands one event ends. -/

namespace Sys2Proof.Machine

/-! ## Saturation, notices, buffer -/

theorem satAdd_le (top a b : Nat) : satAdd top a b ≤ top := Nat.min_le_right _ _

theorem satAdd_eq_of_le {top a b : Nat} (h : a + b ≤ top) : satAdd top a b = a + b := Nat.min_eq_left h

/-- Queueing a notice appends it or counts it lost, and changes nothing else of the link (R172). -/
theorem Link.queue_cases (l : Link) (n : Notice) :
    (l.notices.length < 64 ∧ l.queue n = { l with notices := l.notices ++ [n] }) ∨
      (64 ≤ l.notices.length ∧ l.queue n = { l with overflow := min (l.overflow + 1) 65535 }) := by
  by_cases h : l.notices.length < noticeCapacity
  · exact .inl ⟨h, by simp only [Link.queue, if_pos h]⟩
  · exact .inr ⟨Nat.le_of_not_lt h, by simp only [Link.queue, if_neg h, satAdd, max16]⟩

/-- A complete frame is appended or counted lost (R169). -/
theorem Link.store_cases (l : Link) (f : Frame) :
    (l.buffer.length < 4 ∧ l.store f = { l with buffer := l.buffer ++ [f] }) ∨
      (4 ≤ l.buffer.length ∧ l.store f = { l with fullBuffers := min (l.fullBuffers + 1) 65535 }) := by
  by_cases h : l.buffer.length < bufferCapacity
  · exact .inl ⟨h, by simp only [Link.store, if_pos h]⟩
  · exact .inr ⟨Nat.le_of_not_lt h, by simp only [Link.store, if_neg h, satAdd, max16]⟩

/-! ## Run records -/

/-- An entry leaves everything of a record but its entries and its marks of truncation (R162). -/
theorem RunRec.append_keeps (r : RunRec) (e : Entry) :
    (r.append e).id = r.id ∧ (r.append e).serial = r.serial ∧ (r.append e).location = r.location ∧
      (r.append e).outcome = r.outcome := by
  unfold RunRec.append
  split <;> exact ⟨rfl, rfl, rfl, rfl⟩

/-- A record that joins the completed list stands at its end, and the open records are as they were (R163). -/
theorem Records.join_last (rs : Records) (r : RunRec) : (rs.join r).completed.getLast? = some r ∧ (rs.join r).active = rs.active := by
  unfold Records.join
  split
  · exact ⟨List.getLast?_concat, rfl⟩
  · split
    · exact ⟨rfl, rfl⟩
    · exact ⟨List.getLast?_concat, rfl⟩

/-- Completing an identity without an open record changes nothing (R163). -/
theorem Part.complete_none {p : Part} {id : Nat} (outcome : Result) (h : (p.records.active.find? fun r => r.id = id) = none) :
    p.complete id outcome = p := by
  unfold Part.complete
  rw [h]

/-! ## Clocks (R174) -/

/-- Once a deadline has expired no time passes for it. -/
theorem Clocks.elapseTo_of_expired {c : Clocks} {d : Tick} (h : expired c.tick d = true) : c.elapseTo d = c := by
  simp only [Clocks.elapseTo, if_pos h]

/-- After time has run on to a deadline, the tick stands at it. -/
theorem Clocks.elapseTo_tick {c : Clocks} {d : Tick} (h : expired c.tick d = false) : (c.elapseTo d).tick = d := by
  have tick : (c.elapseTo d).tick = c.tick + BitVec.ofNat 32 (d - c.tick).toNat := by
    simp only [Clocks.elapseTo, h, Bool.false_eq_true, if_false, Clocks.elapse]
  rw [tick, BitVec.ofNat_toNat, BitVec.setWidth_eq]
  rw [BitVec.add_comm, BitVec.sub_add_cancel]

/-! ## Requests (R170) -/

/-- Taking a frame leaves the link's mode, notices and counts as they were. -/
theorem Link.takes_keeps {l k : Link} {f : Frame} (h : l.takes f = some k) :
    k.mode = l.mode ∧ k.notices = l.notices ∧ k.overflow = l.overflow ∧ k.badFrames = l.badFrames ∧
      k.fullBuffers = l.fullBuffers ∧ k.rx = l.rx ∧ k.restartPending = l.restartPending := by
  unfold Link.takes at h
  split at h
  · cases h
  · split at h
    · cases h; exact ⟨rfl, rfl, rfl, rfl, rfl, rfl, rfl⟩
    · split at h
      · cases h; exact ⟨rfl, rfl, rfl, rfl, rfl, rfl, rfl⟩
      · cases h

/-- A frame whose turn has come is taken. -/
theorem Part.taking_of_turn {p : Part} {f : Frame} {l : Link} (h : p.turnOf f l) (act : Part → Part) :
    p.taking f act = act { p with link := l } := by
  obtain ⟨hr, hl⟩ := h
  simp only [Part.taking, hr, if_true, hl]

/-- A request whose turn has come, of its length and in a mode it is open in, reaches its owning block. -/
theorem Part.request_of_turn {p : Part} {kind : Nat} {tag : Byte} {body : List Byte} {l : Link} {length : Nat} {openIn : Mode → Bool}
    (act : Part → Frame → Part) (h : p.turnOf (requestFrame kind tag body) l) (hlen : body.length = length)
    (hmode : openIn p.link.mode = true) :
    p.request kind tag body length openIn act = act { p with link := l } (requestFrame kind tag body) := by
  have mode : l.mode = p.link.mode := (Link.takes_keeps h.2).1
  unfold Part.request
  rw [Part.taking_of_turn h]
  simp [Part.handle, hlen, mode, hmode]

/-- Answering after a frame is taken is what `onlyReplies` says. -/
@[simp] theorem Part.answer_of_taken (p : Part) (l : Link) (f : Frame) (code : ReplyCode) (fields : List Field) :
    ({ p with link := l } : Part).answer f code fields = p.onlyReplies l f code fields := rfl

/-- A request that reaches its owning block goes on with that block's effect. -/
theorem goOn_request {s : State} {kind : Nat} {tag : Byte} {body : List Byte} {l : Link} {length : Nat} {openIn : Mode → Bool}
    (act : Part → Frame → Part) (h : s.part.turnOf (requestFrame kind tag body) l) (hlen : body.length = length)
    (hmode : openIn s.part.link.mode = true) :
    goOn s (s.part.request kind tag body length openIn act) =
      .next (s.become (act { s.part with link := l } (requestFrame kind tag body))) := by
  rw [Part.request_of_turn act h hlen hmode]
  rfl

/-! ## One pig (R53 to R57) -/

/-- The treatment of a pig changes its place, its sums, its residue and NO METER alone. -/
theorem treatPig_keeps (p : Part) (g : Pig) (dv limit : Nat) :
    (treatPig p g dv limit).id = g.id ∧ (treatPig p g dv limit).slip = g.slip ∧ (treatPig p g dv limit).tag = g.tag ∧
      (treatPig p g dv limit).legEnd = g.legEnd ∧ (treatPig p g dv limit).fixAt = g.fixAt ∧
      (treatPig p g dv limit).overdue = g.overdue ∧ (treatPig p g dv limit).stuck = g.stuck := ⟨rfl, rfl, rfl, rfl, rfl, rfl, rfl⟩

/-- The residue after a treatment is below 10,000. -/
theorem treatPig_rp_lt (p : Part) (g : Pig) (dv limit : Nat) : (treatPig p g dv limit).rp < 10000 :=
  Nat.mod_lt _ (by decide)

/-- A treatment moves no pig back. -/
theorem treatPig_P_ge (p : Part) (g : Pig) (dv limit : Nat) : g.P ≤ (treatPig p g dv limit).P := Nat.le_max_left _ _

/-- The entry of an identity carries it. -/
theorem Part.pig_id {p : Part} {id : Nat} {g : Pig} (h : p.pig id = some g) : g.id = id ∧ g ∈ p.run.pigs := by
  have := List.find?_some h
  exact ⟨by simpa using this, List.mem_of_find?_eq_some h⟩

/-- Replacing an entry keeps the identities in their order. -/
theorem Part.setPig_ids (p : Part) (g : Pig) : (p.setPig g).run.pigs.map (·.id) = p.run.pigs.map (·.id) := by
  simp only [Part.setPig, RunTable.setPig, List.map_map]
  apply List.map_congr_left
  intro x _
  by_cases h : x.id = g.id <;> simp [h]

/-- A pig is inserted behind every pig whose P is at or above its own (R50, R62). -/
theorem insertPig_split (g : Pig) (pigs : List Pig) (h : pigs.Pairwise fun a b => b.P ≤ a.P) :
    ∃ front rear, pigs = front ++ rear ∧ insertPig g pigs = front ++ g :: rear ∧ (∀ a ∈ front, g.P ≤ a.P) ∧ (∀ b ∈ rear, b.P < g.P) := by
  induction pigs with
  | nil => exact ⟨[], [], rfl, rfl, by simp, by simp⟩
  | cons x rest ih =>
    obtain ⟨hx, hr⟩ := List.pairwise_cons.mp h
    by_cases hp : g.P ≤ x.P
    · obtain ⟨front, rear, e1, e2, hf, hb⟩ := ih hr
      refine ⟨x :: front, rear, by rw [e1]; rfl, by rw [insertPig, if_pos hp, e2]; rfl, ?_, hb⟩
      intro a ha
      rcases List.mem_cons.mp ha with rfl | ha
      · exact hp
      · exact hf a ha
    · refine ⟨[], x :: rest, rfl, by rw [insertPig, if_neg hp]; rfl, by simp, ?_⟩
      intro b hb
      rcases List.mem_cons.mp hb with rfl | hb
      · exact Nat.lt_of_not_le hp
      · exact Nat.lt_of_le_of_lt (hx b hb) (Nat.lt_of_not_le hp)

/-! ## Counting -/

/-- Repeating a function once more, first or last, is the same. -/
theorem repeat_comm {α : Type} (f : α → α) : ∀ (n : Nat) (a : α), Nat.repeat f (n + 1) a = Nat.repeat f n (f a)
  | 0, _ => rfl
  | n + 1, a => congrArg f (repeat_comm f n a)

/-! ## The section ports (R141, R145, R147) -/

/-- A frame whose transmission has ended stands last in the log, and no reply is formed. -/
@[simp] theorem Part.emit_out (p : Part) (i : Fin 4) (frame : SecFrame) (whole : Bool) :
    (p.emit i frame whole).out = { p.out with lines := p.out.lines ++ [{ port := i, frame, whole }] } := rfl

/-- Abandoning a port's transaction logs the frame it was transmitting, cut off, and does no more. -/
theorem Part.cutOff_eq (p : Part) (i : Fin 4) :
    p.cutOff i = { p with out := { p.out with lines := p.out.lines ++ p.cutFrame i } } := by
  unfold Part.cutOff PortRec.transmitting Part.cutFrame
  cases (p.port i).txn with
  | none => simp
  | some t => cases h : t.phase <;> simp [h, Part.emit]

/-- What the abandoning of a port's transaction logs does not depend on the log. -/
@[simp] theorem Part.cutOff_cutFrame (p : Part) (i j : Fin 4) : (p.cutOff i).cutFrame j = p.cutFrame j := by
  rw [Part.cutOff_eq]
  rfl

/-- Abandoning every port's transaction logs the frames being transmitted, cut off, in port order, and does no more. -/
theorem Part.cutOffAll_eq (p : Part) :
    p.cutOffAll = { p with out := { p.out with lines := p.out.lines ++ p.cutFrames } } := by
  simp only [Part.cutOffAll, List.foldl_cons, List.foldl_nil]
  rw [Part.cutOff_eq (((p.cutOff 0).cutOff 1).cutOff 2) 3, Part.cutOff_eq ((p.cutOff 0).cutOff 1) 2, Part.cutOff_eq (p.cutOff 0) 1,
    Part.cutOff_eq p 0]
  simp only [Part.cutFrames, List.append_assoc]
  rfl

/-- A choice while a frame is on its way, or its answer is awaited, changes nothing (R145). -/
theorem Part.choose_of_busy {p : Part} {i : Fin 4} {t : Txn} (h : (p.port i).txn = some t) (hp : t.phase ≠ .retryDue) :
    p.choose i = p := by
  unfold Part.choose
  rw [h]
  cases e : t.phase with
  | retryDue => exact absurd e hp
  | sending => simp [e]
  | awaiting d => simp [e]

/-- A port that sends has its transaction in the sending phase, no part taken (R147). -/
@[simp] theorem Part.send_txn (p : Part) (i : Fin 4) (t : Txn) :
    ((p.send i t).port i).txn = some { t with parts := [], partCount := 0, phase := .sending } := by
  simp only [Part.send]
  rw [Part.port_setPort, if_pos rfl]

/-! ## The end of commands (R134, R137, R149, R158) -/

/-- The commands that stand on none of the valves given are those that stay in the table; nothing else of the table changes. -/
theorem Part.dropAll_cmds (cs : List Cmd) : ∀ p : Part,
    (p.dropAll cs).cmds = { p.cmds with cmds := p.cmds.cmds.filter fun c => cs.all fun d => !c.on d.station d.slot } := by
  induction cs with
  | nil =>
    intro p
    show p.cmds = { p.cmds with cmds := p.cmds.cmds.filter fun _ => true }
    rw [List.filter_eq_self.mpr fun _ _ => rfl]
  | cons d cs ih =>
    intro p
    rw [show p.dropAll (d :: cs) = (p.dropCmd d).dropAll cs from rfl, ih]
    simp [Part.dropCmd, CmdTable.drop, List.filter_filter, Bool.and_comm]

/-- Where no held entry is of the causes offered, the offer changes nothing (R134). -/
theorem Part.offerAll_of_none {p : Part} {pick : Held → Bool} (h : ∀ x ∈ p.cmds.held, pick x = false) : p.offerAll pick = p := by
  unfold Part.offerAll
  rw [List.filter_eq_nil_iff.mpr fun x hx => by simp [h x hx]]
  rfl

/-- With no entry held, places freed are taken by nothing (R134). -/
theorem Part.offerAllFreed_of_none_held {p : Part} (h : p.cmds.held = []) (cs : List Cmd) : p.offerAllFreed cs = p := by
  have port : ∀ i, p.offerPort i = p := fun i => Part.offerAll_of_none (by simp [h])
  have table : p.offerTable = p := Part.offerAll_of_none (by simp [h])
  have queues : cs.foldl (fun q c => if c.sent then q else q.offerPort c.port) p = p := by
    induction cs with
    | nil => rfl
    | cons c cs ih => rw [List.foldl_cons, port, ite_self, ih]
  unfold Part.offerAllFreed
  rw [queues]
  clear queues
  induction cs with
  | nil => rfl
  | cons c cs ih => rw [List.foldl_cons, table, ih]

/-- An event that ends one command ends it as any command ends. -/
theorem Part.endAll_singleton (p : Part) (c : Cmd) (e : CmdEnd) : p.endAll [c] e = p.endCmd c e := rfl

/-- The commands in order are those of the table that are SENT and pass the test, and those of the port's queue that are not SENT and
pass it (R137). -/
theorem Part.mem_cmdsInOrder {p : Part} {i : Fin 4} {pick : Cmd → Bool} {c : Cmd} :
    c ∈ p.cmdsInOrder i pick ↔
      (c ∈ p.cmds.cmds ∧ c.sent = true ∧ pick c = true) ∨ (c ∈ p.queuedOn i ∧ c.sent = false ∧ pick c = true) := by
  simp [Part.cmdsInOrder]

/-- RESET PORT ends every SENT command of the port, and every QUEUED one in its queue (R137). -/
theorem Part.mem_portCmds {p : Part} {i : Fin 4} {c : Cmd} :
    c ∈ p.portCmds i ↔ (c ∈ p.cmds.cmds ∧ c.sent = true ∧ c.port = i) ∨ (c ∈ p.queuedOn i ∧ c.sent = false ∧ c.port = i) := by
  simp [Part.portCmds, Part.mem_cmdsInOrder]

/-- A station's going SILENT ends every SENT command for it, and every QUEUED one in the port's queue (R137, R149). -/
theorem Part.mem_silencedCmds {p : Part} {i : Fin 4} {t : Txn} {c : Cmd} (h : c.station = t.station)
    (hc : (c ∈ p.cmds.cmds ∧ c.sent = true) ∨ (c ∈ p.queuedOn i ∧ c.sent = false)) : c ∈ p.silencedCmds i t := by
  by_cases own : p.txnCmd t = some c
  · simp [Part.silencedCmds, own]
  · simp [Part.silencedCmds, Part.mem_cmdsInOrder, own, h, hc]

/-- Abandoning a port's transaction leaves the commands of the port (R141, R158). -/
theorem Part.portCmds_abandonTxn (p : Part) (i : Fin 4) : (p.abandonTxn i).portCmds i = p.portCmds i := by
  have queue : ((p.abandonTxn i).port i).queue = (p.port i).queue := by
    unfold Part.abandonTxn
    rw [Part.port_setPort, if_pos rfl, Part.cutOff_eq]
    rfl
  have cmds : (p.abandonTxn i).cmds = p.cmds := by
    unfold Part.abandonTxn
    rw [Part.cutOff_eq]
    rfl
  simp only [Part.portCmds, Part.cmdsInOrder, Part.queuedOn, queue, cmds]

/-- A failure that reaches a sequence which stands stopped is recorded FAILED and moves no step (R104). -/
theorem Part.seqOutcome_of_stopped {p : Part} {t slot : Nat} {action : Action} {reason : Reason}
    (placed : p.stepHas t slot action = true) (stopped : (p.trapState t).active = false) :
    p.seqOutcome t slot action (.failed reason) = p.setCond t slot action .failed := by
  simp [Part.seqOutcome, placed, stopped]

/-! ## Counted passages -/

/-- The trips of a report are taken one after another (R75). -/
theorem Part.takeTrips_eq (recovery : Bool) (before : Option Nat) (x : Nat) : ∀ (n : Nat) (p : Part),
    Part.takeTrips recovery before x n p = Nat.repeat (Part.takeTrip recovery before x) n p
  | 0, _ => rfl
  | n + 1, p => by
    rw [Part.takeTrips, Part.takeTrips_eq recovery before x n]
    exact (repeat_comm (Part.takeTrip recovery before x) n p).symm

/-- The barrel trips of an entry are taken one after another (R109). -/
theorem Part.barrelTrips_eq (t : Nat) : ∀ (n : Nat) (p : Part),
    Part.barrelTrips t n p = Nat.repeat (fun z : Part => z.barrelTrip t) n p
  | 0, _ => rfl
  | n + 1, p => by
    rw [Part.barrelTrips, Part.barrelTrips_eq t n]
    exact (repeat_comm (fun z : Part => z.barrelTrip t) n p).symm

end Sys2Proof.Machine
end

