-- ==== Sys2Proof/Tests/Slice0.lean ====
section
/-! SUPPORT. The model's own tests: ill-formed commands, effects worked out from the manual's figures, and, for every statement
with hypotheses, a state and operands that meet them. -/

open Sys2Proof Sys2Proof.Machine

namespace Sys2Proof.Tests

/-! ## A small line: 1,000 m at 1,000 L/m, a launcher at its start, a receiver at its end, a detector half way -/

def lineTrap (station : Nat) (role : TrapRole) (chainage : Nat) : Trap :=
  { station, role, chainage, pair := none, mainline := 1, barrel := 2, flow := 3, equalise := 4, throttle := 30,
    equaliseTimeout := 300, driveTimeout := 600, armTime := 240, minLead := 50000, autoArm := true }

def lineValve (role : ValveRole) : Valve := { role, actuator := 0, stroke := 120 }

def lineStation (chainage : Nat) (d : Detector) : Station :=
  { chainage, detector := d, guardVol := 20000, rearm := 500, boundary := false }

def line : MapCopy :=
  { emptyMap with
    segments := [(0, { start := 0, length := 1000, fill := 1000000 })]
    stations := [(1, lineStation 0 .none), (2, lineStation 500 .both), (3, lineStation 1000 .none)]
    sections := [(0, { primary := 1, alternate := none })]
    meters := [(1, { station := 1, width := 16, weight := 1000 })]
    traps := [(1, lineTrap 1 .launcher 0), (2, lineTrap 3 .receiver 1000)]
    valves := [(257, lineValve .mainline), (258, lineValve .barrel), (259, lineValve .flow), (260, lineValve .equalise),
               (769, lineValve .mainline), (770, lineValve .barrel), (771, lineValve .flow), (772, lineValve .equalise)]
    rosters := (Four.all defaultRoster).set 0 { defaultRoster with stations := [1, 2, 3] } }

def kept : LineMap := { resetPart.lineMap with working := line, committed := line, commitCount := 1, storedCount := 1 }

/-- The part over the small line, in a mode. -/
def lineIn (mode : Mode) : Part := Part.coldOver kept mode { supplied := true, resetInput := .released }

def machine (p : Part) : State := { part := p, pending := [] }

def onLine (mode : Mode) : State := machine (lineIn mode)

def onePig (id P : Nat) : Pig :=
  { id, tag := 0, kind := .scraper, slip := 300, rp := 0, P, M := 0, O := 0, fixAt := P, fixPoint := .none,
    fixTime := { secs := 0, set := false }, legEnd := 2, overdue := false, stuck := false, blocked := false, noMeter := true,
    stale := false, seq := 0 }

/-- The part over the small line with pigs in its run table. -/
def withPigs (mode : Mode) (pigs : List Pig) : Part := { lineIn mode with run := { pigs, reservations := [], nextSeq := 9 } }

/-- Trap n of the small line with a record of its own. -/
def withTrap (p : Part) (n : Nat) (r : TrapRec) : Part := { p with traps := Table.put p.traps n r }

def heldPig : HeldPig := { id := 9, tag := 0, kind := .cup, slip := 250 }

/-- Port 0 with a transaction. -/
def withTxn (p : Part) (t : Txn) : Part := p.setPort 0 fun r => { r with txn := some t }

def pollOf (x : Nat) (phase : Phase) : Txn := { pollTxn x true with phase }

/-- The part after a command; the part before it, if the command did not go on. -/
def after (c : Instr) (p : Part) : Part :=
  match exec c (machine p) with
  | .next t => t.part
  | .fault _ | .refused _ => p

/-- The code of the last reply. -/
def lastCode (p : Part) : Option ReplyCode := (p.out.replies.getLast?).map (·.code)

theorem turn (mode : Mode) (f : Frame) : (lineIn mode).turnOf f (lineIn mode).link := ⟨rfl, rfl⟩

/-! ## Ill-formed commands are told apart -/

theorem test_unknown_request_of_known_kind : (Instr.unknownRequest 0x01 0 []).wellFormed = false := by decide

theorem test_unknown_request_of_unknown_kind : (Instr.unknownRequest 0x7F 0 []).wellFormed = true := by decide

theorem test_body_too_long : (Instr.mapWrite 0 (List.replicate 513 0)).wellFormed = false := by decide +kernel

theorem test_body_at_limit : (Instr.mapWrite 0 (List.replicate 512 0)).wellFormed = true := by decide +kernel

theorem test_report_without_frame : (Instr.report 0 []).wellFormed = false := by decide

theorem test_ack_of_other_kind :
    (Instr.ack 0 (SecFrame.bytes { station := 1, kind := kindNak, part := 0x11, body := [] })).wellFormed = false := by decide +kernel

theorem test_nak_of_its_kind :
    (Instr.nak 0 (SecFrame.bytes { station := 1, kind := kindNak, part := 0x11, body := [] })).wellFormed = true := by decide +kernel

theorem test_valve_timeout_station_out_of_range : (Instr.valveTimeout 65 1).wellFormed = false := by decide

theorem test_valve_timeout_slot_out_of_range : (Instr.valveTimeout 1 7).wellFormed = false := by decide

theorem test_trap_out_of_range : (Instr.equaliseTimeout 17).wellFormed = false := by decide

theorem test_trap_zero : (Instr.driveTimeout 0).wellFormed = false := by decide

theorem test_diverting_trap_out_of_range : (Instr.divertingTimeout 0).wellFormed = false := by decide

/-! ## Figures of the manual -/

/-- CRC-16 with polynomial 1021h, initial value FFFFh, of the text 123456789 (the usual check value, 29B1h). -/
theorem test_crc16_check_value : crc16 [0x31, 0x32, 0x33, 0x34, 0x35, 0x36, 0x37, 0x38, 0x39] = 0x29B1 := by decide +kernel

/-- CRC-32 with polynomial EDB88320h of the same text (the usual check value, CBF43926h). -/
theorem test_crc32_check_value : crc32 [0x31, 0x32, 0x33, 0x34, 0x35, 0x36, 0x37, 0x38, 0x39] = 0xCBF43926 := by decide +kernel

/-- The credit worked in chapter 2: a count delta of 257,216 of a 24-bit counter, and 643,040 L with 700 mL carried on. -/
theorem test_credit_of_chapter_2 :
    countDelta 24 16700000 180000 = 257216 ∧ creditTotal 257216 2500 700 = 643040700 := by decide

/-- The slip update worked in chapter 4 (R80). -/
theorem test_slip_update_of_chapter_4 : slipUpdate 50000 300 23159960 23800000 = 292 := by decide

/-- Three deltas of 7 L at slip 1,200 advance 18 L with 4,800 carried (R53). -/
theorem test_residue_of_R53 :
    let g := [7, 7, 7].foldl (fun x dv => treatPig (lineIn .tracking) x dv 1000) { onePig 1 0 with slip := 1200 }
    (g.P, g.rp) = (18, 4800) := by decide

/-- The spreads of chapter 3's worked figures (R45). -/
theorem test_spreads_of_chapter_3 :
    [23400000, 15670100, 5520000].map defaultTuning.spread = [353000, 237051, 84800] := by decide

/-- Chainage 1 on a fill of 785,398 mL/m has coordinate 785, which turns back into chainage 0 (R19). -/
theorem test_rounding_of_R19 :
    let m := { emptyMap with segments := [(0, { start := 0, length := 20000, fill := 785398 })] }
    (m.coord 1, m.chainageOf 785) = (some 785, 0) := by decide

/-- The default actuator table: codes 0, 1 and 15 read 0, 6 and 100 percent (R7). -/
theorem test_default_actuator : (defaultActuator.getD 0 9, defaultActuator.getD 1 9, defaultActuator.getD 15 9) = (0, 6, 100) := by
  decide

/-- A deadline across the wrap of the tick (R174). -/
theorem test_deadline_across_wrap : (expired 5 0xFFFFFFF0, expired 0xFFFFFFF0 5) = (true, false) := by decide

theorem test_small_line_passes_its_check : line.check = none := by decide

/-! ## Effects of commands -/

theorem test_frame_enters_the_buffer :
    (after (.supervisorFrame (supervisorFrame 0x01 7 [])) (lineIn .setup)).link.buffer = [{ kind := 0x01, tag := 7, body := [] }] := by
  decide

theorem test_bad_crc_counts : (after (.supervisorFrame [0xA5, 0, 0, 1, 7, 0, 0]) (lineIn .setup)).link.badFrames = 1 := by decide

theorem test_byte_timeout_counts :
    (after .interByteTimeout (after (.supervisorFrame [0xA5, 0]) (lineIn .setup))).link.badFrames = 1 := by decide

theorem test_unknown_request : lastCode (after (.unknownRequest 0x7F 3 []) (lineIn .setup)) = some .unknownRequest := by decide

theorem test_ident_length : lastCode (after (.ident 3 [0]) (lineIn .setup)) = some .badLength := by decide

theorem test_set_clock : (after (.setClock 1 [4, 3, 2, 1]) (lineIn .setup)).clocks.secs = 0x01020304 := by decide

theorem test_set_mode_to_tracking : (after (.setMode 1 [2]) (lineIn .setup)).link.mode = .tracking := by decide

theorem test_set_mode_to_frozen_from_setup : lastCode (after (.setMode 1 [3]) (lineIn .setup)) = some .mode := by decide

theorem test_warm_restart_notifies :
    ((after .warmRestart (after (.restart 1 []) (lineIn .tracking))).link.notices.map (·.kind)) = [.restarted] := by decide

theorem test_loss_of_supply_stops : (after (.lossOfSupply false) (lineIn .tracking)).running = false := by decide

theorem test_reset_hold_stops : (after .resetHoldExpiry (after .resetAsserted (lineIn .tracking))).running = false := by decide

theorem test_short_reset_has_no_effect :
    (after .resetReleased (after .resetAsserted (lineIn .tracking))).link.mode = .tracking := by decide

theorem test_map_write_clamps_the_stroke :
    (Table.get (after (.mapWrite 1 [5, 1, 1, 4, 0, 5, 0]) (lineIn .setup)).lineMap.working.valves 257).map (·.stroke) = some 10 := by
  decide

theorem test_map_clear_absent : lastCode (after (.mapClear 1 [3, 9, 0]) (lineIn .setup)) = some .noSuch := by decide

theorem test_map_discard :
    (after (.mapDiscard 1 []) (after (.mapClear 1 [9, 0, 0]) (lineIn .setup))).lineMap.working.meters = line.meters := by decide

theorem test_map_read_next : lastCode (after (.mapRead 1 [1, 1, 4, 0, 1]) (lineIn .setup)) = some .noSuch := by decide

theorem test_map_commit_of_empty_map :
    ((after (.mapCommit 1 [] true) (after (.mapClear 1 [9, 0, 0]) (lineIn .setup))).out.replies.getLast?).map (·.fields) =
      some [.val 1 0, .val 2 0, .val 1 1] := by decide

theorem test_roster_set : ((after (.rosterSet 1 [1, 8, 0, 0, 0, 0, 0, 1, 2]) (lineIn .setup)).lineMap.working.rosters.get 1).stations = [2] := by
  decide

theorem test_declare_places_the_pig :
    (after (.declarePig 1 [7, 0, 0, 0, 1, 0xFF, 0xFF, 100, 0, 0, 0]) (lineIn .tracking)).run.pigs.map Pig.tracked =
      [(7, 100000, 0, 0, 300, 0)] := by decide

theorem test_declare_joins_lists :
    ((after (.declarePig 1 [7, 0, 0, 0, 1, 0xFF, 0xFF, 100, 0, 0, 0]) (lineIn .tracking)).expected 2,
     (after (.declarePig 1 [7, 0, 0, 0, 1, 0xFF, 0xFF, 100, 0, 0, 0]) (lineIn .tracking)).awaited 2) = ([7], [7]) := by decide

theorem test_fix_moves_back :
    ((after (.fixPig 1 [7, 0, 50, 0, 0, 0]) (withPigs .frozen [onePig 7 100000])).pig 7).map (·.P) = some 50000 := by decide

theorem test_write_off : (after (.writeOffPig 1 [7, 0]) (withPigs .frozen [onePig 7 100000])).run.pigs = [] := by decide

theorem test_load : (after (.loadPig 1 [1, 9, 0, 0, 0, 3, 0xFF, 0xFF]) (lineIn .tracking)).trapState 1 = .loaded := by decide

theorem test_launch_reserves :
    (after (.launch 1 [1]) (withTrap (lineIn .tracking) 1 { freshTrap with state := .loaded, holding := some heldPig })).run.reservations =
      [1] := by decide

theorem test_receive_arm_places_equalise_open :
    (after (.receiveArm 1 [2]) (lineIn .tracking)).cmds.cmds.map (fun c => (c.station, c.slot, c.action)) = [(3, 4, .opening)] := by decide

theorem test_remove_from_launcher :
    lastCode (after (.removePig 1 [1]) (withTrap (lineIn .tracking) 1 { freshTrap with state := .loaded, holding := some heldPig })) =
      some .ok := by decide

theorem test_transfer_without_pair : lastCode (after (.transfer 1 [2]) (lineIn .tracking)) = some .noSuch := by decide

theorem test_abort_restores :
    (after (.abort 1 [2]) (after (.receiveArm 1 [2]) (lineIn .tracking))).trapState 2 = .restoring := by decide

theorem test_resume_of_active_sequence :
    lastCode (after (.resume 1 [2]) (after (.receiveArm 1 [2]) (lineIn .tracking))) = some .trapBusy := by decide

theorem test_equalise_timeout_faults :
    (after (.equaliseTimeout 2) (after (.receiveArm 1 [2]) (lineIn .tracking))).trapState 2 = .fault := by decide

theorem test_valve_near_a_pig :
    ((after (.valve 1 [3, 1, 2, 0, 0])
        { withPigs .tracking [onePig 7 990000] with
          attr := { (lineIn .tracking).attr with stations := [(1, freshAttr), (2, freshAttr), (3, { freshAttr with expected := [7] })] } }
      ).out.replies.getLast?).map (fun r => (r.code, r.fields)) = some (.pigNear, [.val 2 7, .val 1 3]) := by decide

theorem test_valve_placed : (after (.valve 1 [3, 1, 1, 0, 0]) (lineIn .tracking)).cmds.cmds.map (·.deadline) = [120000] := by decide

theorem test_valve_timeout_notice :
    ((after (.valveTimeout 3 1) (after (.valve 1 [3, 1, 1, 0, 0]) (lineIn .tracking))).link.notices.map (·.kind)) = [.valveFailed] := by
  decide

/-- The part over the small line in TRACKING, port 0's poll gap running and no transaction under way. -/
def inGap : Part := (lineIn .tracking).setPort 0 fun r => { r with gap := some 50, txn := none, cycle := 0 }

theorem test_port_sends_a_command_before_a_poll :
    ((after (.sectionTransmitDone 0) (after (.pollGapExpiry 0) (after (.valve 1 [3, 1, 1, 0, 0]) inGap))).out.lines.map fun x =>
      (x.frame.body, x.whole)) = [([1, 1, 0], true)] := by decide

theorem test_port_polls_its_roster :
    ((after (.sectionTransmitDone 0) (after (.pollGapExpiry 0) inGap)).out.lines.map fun x => (x.frame.station, x.frame.kind)) =
      [(1, kindPoll)] := by decide

theorem test_reset_port_cuts_a_frame_off :
    ((after (.resetPort 1 [0]) (withTxn (lineIn .tracking) (pollOf 1 .sending))).out.lines.map fun x => (x.port, x.frame.kind, x.whole)) =
      [(0, kindPoll, false)] := by decide

theorem test_reply_timeout_silences_at_the_limit :
    (after (.replyTimeout 0) (withTxn (lineIn .tracking) { pollOf 1 (.awaiting 400) with attempt := 3 })).live 1 = .silent := by decide

theorem test_report_of_a_meter :
    ((Table.get (after (.report 0 (SecFrame.bytes { station := 1, kind := 0x11, part := 0x11, body := [2, 1, 1, 5, 0, 0, 0] }))
        (withTxn (lineIn .tracking) (pollOf 1 (.awaiting 400)))).meters.meters 1).map fun m => (m.health, m.lastCount)) =
      some (.healthy, some 5) := by decide +kernel

/-- R36: a report at 100 ms lists the driving meter twice, its stamp before the report being 0 ms; the second credit of 2 L has the same
interval as the first of 5 L. -/
theorem test_meter_listed_twice :
    let p := lineIn .tracking
    let q : Part := { p with
      clocks := { p.clocks with tick := 100 }
      meters := {
        meters := Table.modify p.meters.meters 1 fun r => { r with health := .healthy, lastCount := some 0, stamp := some 0 }
        sections := Table.modify p.meters.sections 0 fun r => { r with driver := some 1 } } }
    ((Table.get (q.meterPart 1 [(1, 5), (1, 7)]).meters.sections 0).map fun r => (r.lastCredit, r.lastInterval)) = some (2, 100) := by
  decide +kernel

theorem test_bad_frame_makes_a_retry_due :
    (((after (.badFrame 0 [0]) (withTxn (lineIn .tracking) (pollOf 1 (.awaiting 400)))).port 0).txn.map (·.phase)) = some .retryDue := by
  decide

/-- The receiver of the small line in OPENING, its two commands PLACED, the one on its barrel valve SENT and acknowledged. -/
def openingTrap : TrapRec :=
  { freshTrap with
    state := .opening, step := some .opening
    cmds := [{ role := .barrel, action := .opening, cond := .placed }, { role := .flow, action := .opening, cond := .placed }] }

def barrelCmd : Cmd :=
  { station := 3, slot := 2, action := .opening, target := none, cls := .normal, origin := .sequence 2, port := 0, sent := true,
    acked := true, deadline := 0, placed := 0 }

/-- The other command of the step, which waits in the queue. -/
def flowCmd : Cmd := { barrelCmd with slot := 3, sent := false, acked := false }

def openingUnderWay : Part :=
  { withTrap (withTxn (lineIn .tracking) { commandTxn barrelCmd with phase := .awaiting 400 }) 2 openingTrap with
    cmds := { cmds := [barrelCmd], held := [], valves := [] } }

/-- The last attempt of the command on the barrel valve awaits its answer, and the command on the flow valve is QUEUED. -/
def bothOutstanding : Part :=
  let p := withTxn openingUnderWay { commandTxn barrelCmd with phase := .awaiting 400, attempt := 3 }
  { p.setPort 0 fun r => { r with queue := [(3, 3)] } with cmds := { cmds := [barrelCmd, flowCmd], held := [], valves := [] } }

/-- The receiver's state and fault, and what has become of its two commands. -/
def openingEnds (p : Part) : Option (TrapState × Option Reason × List StepCond) :=
  (Table.get p.traps 2).map fun r => (r.state, r.lastFault.map (·.reason), r.cmds.map (·.cond))

/-- R137, R158: RESET PORT ends the SENT command and the QUEUED one, and counts both; a port outside 0..3 is refused. -/
theorem test_reset_port :
    let q := after (.resetPort 1 [0]) bothOutstanding
    lastCode (after (.resetPort 1 [4]) (lineIn .tracking)) = some .range ∧
      openingEnds q = some (.fault, some .linkReset, [.failed, .failed]) ∧ q.cmds.cmds = [] ∧
      q.out.replies.map (·.fields) = [[.val 4 2]] := by decide

/-- R137, R149: the station's going SILENT ends the transaction's own command and the QUEUED one LINK FAILED, with one fault. -/
theorem test_silence_ends_every_command :
    let q := after (.replyTimeout 0) bothOutstanding
    openingEnds q = some (.fault, some .linkFailed, [.failed, .failed]) ∧ q.cmds.cmds = [] ∧
      q.link.notices.map (·.kind) = [.stationSilent, .sequenceFault] := by decide

theorem test_record_next_without_cursor : lastCode (after (.recordNext 1 []) (lineIn .tracking)) = some .noCursor := by decide

theorem test_table_word_spells_nothing : decodeTableWord 8 0 = none := by decide

theorem test_idle_counts_the_tick : (State.idle (onLine .tracking)).part.clocks.tick = 1 := by decide

/-! ## The hypotheses of each statement are met -/

theorem witness_StepRunsFrontCommand : ({ onLine .setup with pending := [.supplyApplied] } : State).pending = .supplyApplied :: [] := rfl

theorem witness_IdleStepLetsAMillisecondPass :
    (onLine .setup).pending = [] ∧ (lineIn .setup).running = true ∧
      ({ lineIn .setup with clocks := { tick := 0, secs := 0, set := false, sub := 999 } } : Part).clocks.sub = 999 ∧
      (after (.lossOfSupply false) (lineIn .setup)).running = false := by decide

/-- A link whose queue, buffer and counts stand at their bounds. -/
def fullLink : Link :=
  { (lineIn .tracking).link with
    notices := List.replicate 64
      { kind := .restarted, time := { secs := 0, set := false }, pig := none, station := none, trap := none, detail := [] }
    buffer := List.replicate 4 { kind := 1, tag := 1, body := [] }, overflow := 65535, badFrames := 65535, fullBuffers := 65535 }

theorem witness_LinkBoundsKept : ({ lineIn .tracking with link := fullLink } : Part).link.Bounded ∧
    ∃ t, step (machine { lineIn .tracking with link := fullLink }) = .next t := by
  refine ⟨?_, _, rfl⟩
  unfold Link.Bounded
  decide

/-- A run record of pig 7 with 20 entries. -/
def longRecord : RunRec :=
  { serial := 3, id := 7, tag := 0, kind := .scraper, opened := { secs := 0, set := false }, location := .inLine, outcome := none,
    closed := none, truncated := false, dropped := 0
    entries := List.replicate 20
      { kind := .fixed, point := .none, time := { secs := 0, set := false }, P := none, M := none, slip := 0 } }

/-- A full record. -/
def fullRecord : RunRec :=
  { longRecord with
    truncated := true, dropped := 65535
    entries := List.replicate 48
      { kind := .fixed, point := .none, time := { secs := 0, set := false }, P := none, M := none, slip := 0 } }

def fullRecords : Records := { active := [fullRecord], completed := List.replicate 8 fullRecord, cursor := .closed, nextSerial := 4 }

theorem witness_RecordBoundsKept : fullRecords.Bounded ∧
    ∃ t, step (machine { lineIn .tracking with records := fullRecords }) = .next t := by
  refine ⟨?_, _, rfl⟩
  unfold Records.Bounded RunRec.Bounded
  decide

/-- Twenty-four commands on twenty-four valves. -/
def fullTable : CmdTable :=
  { cmds := (List.range 24).map fun n =>
      { station := n, slot := 1, action := .opening, target := none, cls := .normal, origin := .host, port := 0, sent := true,
        acked := false, deadline := 0, placed := 0 }
    held := [], valves := [] }

theorem witness_CommandBoundsKept : fullTable.Bounded ∧
    ∃ t, step (machine { lineIn .tracking with cmds := fullTable }) = .next t := by
  refine ⟨?_, _, rfl⟩
  unfold CmdTable.Bounded
  decide

theorem witness_MetersAccountKept : State.reset.part.MetersAccount ∧ ∃ t, step State.reset = .next t := by
  refine ⟨?_, _, rfl⟩
  intro n m r h
  cases h

theorem witness_IdentitiesStayDistinct :
    let p := withTrap (withPigs .tracking [onePig 7 100000]) 1 { freshTrap with state := .loaded, holding := some heldPig }
    p.TrapsRising ∧ p.IdentitiesDistinct ∧ ∃ t, step (machine p) = .next t := by
  refine ⟨⟨?_, ?_, ?_, ?_, ?_⟩, ?_, _, rfl⟩
  · unfold Table.Rising; decide
  · unfold Table.Rising; decide
  · intro b h; cases h
  · intro b h; cases h
  · unfold Table.Rising; decide
  · unfold Part.IdentitiesDistinct; decide

theorem witness_SupplyOnEmptyMemoryGivesReset :
    State.reset.part.lineMap.bank0 = none ∧ State.reset.part.lineMap.bank1 = none ∧ State.reset.pending = [] ∧
      State.reset.part.lineMap.storedCount = 0 ∧ State.reset.part.power.resetInput = .released := by decide

/-- Two banks, the second the newer. -/
def twoBanks : LineMap := { kept with bank0 := some { map := line, count := 1 }, bank1 := some { map := line, count := 2 } }

theorem witness_SupplyLoadsTheNewerBank :
    twoBanks.bank1 = some { map := line, count := 2 } ∧ (∀ c, twoBanks.bank0 = some c → c.count < 2) ∧
      ({ kept with bank0 := some { map := line, count := 0 } } : LineMap).bank1 = none := by
  refine ⟨rfl, ?_, rfl⟩
  intro c h
  cases h
  decide

theorem witness_ResetInputActsWhenHeld :
    (lineIn .tracking).power.resetInput = .released ∧ (after .resetAsserted (lineIn .tracking)).power.resetInput = .asserted ∧
      (after .resetHoldExpiry (after .resetAsserted (lineIn .tracking))).power = { supplied := true, resetInput := .held } ∧
      (after .resetHoldExpiry (after .resetAsserted (after (.lossOfSupply false) (lineIn .tracking)))).power =
        { supplied := false, resetInput := .held } := by decide

/-- R179: supply applied with the reset input held leaves the part stopped, and the release then restarts it. -/
theorem test_supply_with_the_reset_input_held :
    let held := after .supplyApplied (after .resetHoldExpiry (after .resetAsserted (after (.lossOfSupply false) (lineIn .tracking))))
    held.running = false ∧ (after .resetReleased held).running = true := by decide

theorem witness_StoppedPartTakesNothing :
    (after .resetHoldExpiry (after .resetAsserted (lineIn .tracking))).running = false ∧
      (Instr.ident 1 []).reachesStopped = false := by decide

theorem witness_SupplyLossKeepsTheBanks :
    let p : Part := { lineIn .setup with lineMap := { twoBanks with current := some false } }
    p.power.supplied = true ∧ p.link.mode = .setup ∧ p.cmds.cmds = [] ∧ p.lineMap.working.check = none ∧
      p.lineMap.current = some false := by decide

theorem witness_FrameReceivedWhole :
    (List.replicate 512 (0 : Byte)).length ≤ 512 ∧ (lineIn .setup).running = true ∧ (lineIn .setup).link.rx = [] ∧
      fullLink.buffer.length = 4 := by decide +kernel

theorem witness_ReceptionIgnoresTheSplit : (lineIn .setup).running = true := by decide

theorem witness_ByteTimeoutAbandonsTheFrame :
    (after (.supervisorFrame [0xA5, 0]) (lineIn .setup)).link.rx = [0xA5, 0] ∧ (0xA5 : Byte) ∉ [(0 : Byte)] := by decide

theorem witness_RequestWaitsItsTurn :
    (Instr.ident 1 []).frame = some (requestFrame 0x01 1 []) ∧ fullLink.buffer.head? = some { kind := 1, tag := 1, body := [] } ∧
      (requestFrame 0x02 1 [] ≠ ({ kind := 1, tag := 1, body := [] } : Frame)) ∧
      (after (.restart 1 []) (lineIn .setup)).link.restartPending = true := by decide

theorem witness_LinkRefusals :
    ((lineIn .setup).turnOf { kind := 0x7F, tag := 1, body := [] } (lineIn .setup).link ∧ (Instr.unknownRequest 0x7F 1 []).unknown = true ∧
      requestKinds.contains 0x7F = false) ∧
    ((lineIn .setup).turnOf (requestFrame 0x01 1 [0]) (lineIn .setup).link ∧ (Instr.ident 1 [0]).lengthOk = false) ∧
    ((lineIn .setup).turnOf (requestFrame 0x41 1 [1]) (lineIn .setup).link ∧ (Instr.launch 1 [1]).lengthOk = true ∧
      (Instr.launch 1 [1]).openIn .setup = false) :=
  ⟨⟨turn _ _, rfl, by decide⟩, ⟨turn _ _, rfl⟩, turn _ _, rfl, rfl⟩

theorem witness_IdentAndSetClock : (lineIn .frozen).turnOf (requestFrame 0x01 1 []) (lineIn .frozen).link ∧
    (lineIn .frozen).turnOf (requestFrame 0x02 1 [0xFF, 0xFF, 0xFF, 0xFF]) (lineIn .frozen).link := ⟨turn _ _, turn _ _⟩

theorem witness_FetchNoticesReturnsTheOldest :
    (lineIn .setup).turnOf (requestFrame 0x03 1 []) (lineIn .setup).link ∧
      (lineIn .setup).turnOf (requestFrame 0x03 1 [0]) (lineIn .setup).link := ⟨turn _ _, turn _ _⟩

theorem witness_SetModeFollowsTheTable :
    (lineIn .setup).turnOf (requestFrame 0x04 1 [4]) (lineIn .setup).link ∧ (lineIn .setup).turnOf (requestFrame 0x04 1 [0]) (lineIn .setup).link ∧
      (lineIn .tracking).turnOf (requestFrame 0x04 1 [1]) (lineIn .tracking).link ∧
      (lineIn .frozen).turnOf (requestFrame 0x04 1 [3]) (lineIn .frozen).link ∧ (lineIn .setup).link.mode = .setup ∧
      (lineIn .tracking).link.mode = .tracking ∧ (lineIn .frozen).link.mode = .frozen :=
  ⟨turn _ _, turn _ _, turn _ _, turn _ _, rfl, rfl, rfl⟩

theorem witness_RestartThenWarmRestart :
    let p := withPigs .tracking [onePig 7 400000, onePig 8 300000]
    p.turnOf (requestFrame 0x05 1 []) p.link ∧ (after (.restart 1 []) p).running = true ∧
      (after (.restart 1 []) p).link.restartPending = true ∧ ((after (.restart 1 []) p).run.pigs.map (·.id)).Nodup :=
  ⟨⟨rfl, rfl⟩, rfl, rfl, by decide⟩

theorem witness_MapWriteStoresAStation :
    (1 ≤ (1 : Byte).toNat ∧ (1 : Byte).toNat ≤ 64 ∧ 1 ≤ (64 : Byte).toNat ∧ (64 : Byte).toNat ≤ 64) ∧
      (Table.get line.stations 1).isSome = true ∧ Table.get line.stations 64 = none ∧ (lineIn .setup).link.mode = .setup ∧
      ((2 : Byte).toNat = ValveRole.flow.code ∧ (3 : Byte).toNat = (3 : Fin 4).val ∧ 1 ≤ (6 : Byte).toNat ∧ (6 : Byte).toNat ≤ 6) ∧
      ((List.replicate 16 (100 : Byte)).length = 16 ∧ (∀ x ∈ List.replicate 16 (100 : Byte), x.toNat ≤ 100) ∧ 3 < 4 ∧
        ∀ j, ((lineIn .setup).lineMap.working.actuators.get j).length = 16) ∧
      ∀ f, (lineIn .setup).turnOf f (lineIn .setup).link :=
  ⟨by decide, by decide, by decide, rfl, by decide, by decide, fun f => turn _ f⟩

theorem witness_MapClearAndDiscard :
    (line.recordFields .station 2).isSome = true ∧ (line.recordFields .roster 3).isSome = true ∧
      line.recordFields .station 4 = none ∧ (lineIn .frozen).link.mode ≠ .setup ∧ ∀ m f, (lineIn m).turnOf f (lineIn m).link :=
  ⟨by decide, by decide, by decide, by decide, turn⟩

theorem witness_MapReadReturnsTheRecord :
    ((line.keysOf .station).Pairwise (· < ·)) ∧ line.recordFields .station 4 = none ∧ (line.recordFields .station 3).isSome = true ∧
      ∀ f, (lineIn .setup).turnOf f (lineIn .setup).link := ⟨by decide, by decide, by decide, turn _⟩

/-- The small line in two segments that meet at chainage 400, coordinate 20,000. -/
def twoSegments : MapCopy :=
  { line with segments := [(0, { start := 0, length := 400, fill := 50000 }), (1, { start := 400, length := 600, fill := 50000 })] }

theorem witness_MapIdentAndLocate :
    checkSegments line.segments 0 0 = none ∧ line.lineEnd = 1000 ∧ line.lineTotal = 1000000 ∧ (lineIn .tracking).lineMap.commitCount ≠ 0 ∧
      State.reset.part.lineMap.commitCount = 0 ∧ checkSegments twoSegments.segments 0 0 = none ∧
      (twoSegments.segs.filter fun x => decide (x.seg.start ≤ 400 ∧ 400 < x.seg.stop)).map (·.index) = [1] ∧
      (twoSegments.segs.filter fun x => decide (x.vstart ≤ 20000 ∧ 20000 < x.vstart + x.seg.volume)).map (·.index) = [1] ∧
      (twoSegments.segs.getLast?.map (·.index), twoSegments.lineEnd, twoSegments.lineTotal) = (some 1, 1000, 50000) := by decide

theorem witness_MapCommitPutsInForce :
    (lineIn .setup).turnOf (requestFrame 0x13 1 []) (lineIn .setup).link ∧ (lineIn .setup).link.mode = .setup ∧ (lineIn .setup).cmds.cmds = [] ∧
      line.check = none ∧ (∃ e, emptyMap.check = some e) ∧ fullTable.cmds ≠ [] ∧ twoBanks.current = none ∧
      (∀ b, ({ twoBanks with current := some b } : LineMap).current = some b) ∧ Table.has line.valves 257 = true ∧
      Table.has line.stations 1 = true ∧ (Table.get line.meters 1).isSome = true ∧
      (Table.get (lineIn .setup).meters.meters 1).isSome = true :=
  ⟨turn _ _, rfl, rfl, by decide, ⟨_, rfl⟩, by decide, rfl, fun _ => rfl, by decide, by decide, by decide, by decide⟩

theorem witness_ChainageRoundTrip : checkSegments line.segments 0 0 = none ∧ 1000 ≤ line.lineEnd ∧ 0 ≤ line.lineEnd := by decide

theorem witness_RosterSetWritesThePort :
    (lineIn .setup).link.mode = .setup ∧ (List.replicate 16 (64 : Byte)).length ≤ 16 ∧
      (∀ x ∈ List.replicate 16 (64 : Byte), 1 ≤ x.toNat ∧ x.toNat ≤ 64) ∧ (100 ≤ 2000 ∧ 2000 ≤ 2000 ∧ 7 ≤ 7 ∧ 1000 ≤ 1000) ∧
      ¬(100 ≤ 2001 ∧ 2001 ≤ 2000) := by decide

theorem witness_MeterQueriesAnswer :
    ((0 : Byte).toNat = 0 ∧ 32 < (33 : Byte).toNat ∧ (32 : Byte).toNat ≤ 32 ∧ 15 < (16 : Byte).toNat ∧ (15 : Byte).toNat ≤ 15) ∧
      Table.get (lineIn .setup).meters.meters 32 = none ∧ (Table.get (lineIn .setup).meters.meters 1).isSome = true ∧
      Table.get line.sections 15 = none ∧ (Table.get line.sections 0).isSome = true ∧
      (Table.get (lineIn .setup).meters.sections 0).isSome = true := by decide

theorem witness_UnfreezeDiscardDropsHeld :
    (lineIn .frozen).turnOf (requestFrame 0x23 1 []) (lineIn .frozen).link ∧ (lineIn .frozen).link.mode = .frozen ∧
      (lineIn .tracking).link.mode ≠ .frozen := ⟨turn _ _, rfl, by decide⟩

theorem witness_UnfreezeCreditHandsOn :
    let p := withPigs .frozen [onePig 7 100000, onePig 8 50000]
    p.turnOf (requestFrame 0x22 1 []) p.link ∧ p.link.mode = .frozen ∧ OrderedPigs p.run.pigs ∧ (∀ g ∈ p.run.pigs, g.M ≤ 4294967295) ∧
      ∀ j < 16, j ≠ 0 → p.heldOf j = 0 := by
  refine ⟨⟨rfl, rfl⟩, rfl, ?_, ?_, ?_⟩
  · unfold OrderedPigs; decide
  · decide
  · decide

/-- A meter record in a health, its last count 5. -/
def meterIn (h : Health) (plausible : Nat) : MeterRec := { freshMeter with health := h, lastCount := some 5, plausible }

/-- The part over the small line, its one meter in a health and its one section under a driver. -/
def metered (mode : Mode) (h : Health) (driver : Option Nat) (since : Bool) : Part :=
  let p := (withPigs mode [onePig 7 100000]).setMeter 1 fun _ => meterIn h 0
  { p with meters := { p.meters with
      sections := [(0, { driver := driver, meteredSince := since, lastCredit := 0, lastInterval := 0, held := 0 })] } }

theorem witness_CountsAreCredited :
    (∀ h, Table.get ((lineIn .tracking).setMeter 1 fun _ => meterIn h 1).meters.meters 1 = some (meterIn h 1)) ∧
      (32773 + 2 ^ 16 - 5) % 2 ^ 16 = 2 ^ (16 - 1) ∧ 2 ^ (16 - 1) < (32774 + 2 ^ 16 - 5) % 2 ^ 16 ∧
      (let lost := (metered .tracking .healthy (some 1) true)
       lost.map.sectionNaming 1 = some (0, true) ∧ (Table.get lost.map.sections 0).isSome = true ∧
        (lost.changeHealth 1 .suspect).health 1 ≠ .healthy) ∧
      (let gained := metered .tracking .suspect none true
       (gained.changeHealth 1 .healthy).health 1 = .healthy) ∧
      OrderedPigs (metered .tracking .healthy (some 1) true).run.pigs ∧
      (metered .frozen .healthy (some 1) true).link.mode = .frozen ∧
      (∀ g ∈ (metered .tracking .healthy (some 1) true).run.pigs, g.M ≤ 4294967295) ∧
      Table.get (lineIn .tracking).map.meters 2 = none ∧
      (∃ m, Table.get (lineIn .tracking).map.meters 1 = some m ∧ m.station = 1 ∧ m.station ≠ 2) ∧
      (Table.get (lineIn .tracking).meters.meters 1).isSome = true := by
  refine ⟨fun h => rfl, by decide, by decide, by decide, by decide, ?_, rfl, by decide, by decide, ⟨_, rfl, by decide⟩, by decide⟩
  unfold OrderedPigs
  decide

/-- R87: a trip of a recovery report is tested against the volume from before the silence, though an earlier trip of the report has just
set the present one; outside such a report it is a double trip. -/
theorem test_recovery_trip_meets_the_old_volume :
    let p := metered .tracking .healthy (some 1) true
    let q : Part := { p with attr := { p.attr with
      running := [(0, 10000)], stations := Table.modify p.attr.stations 2 fun a => { a with lastPassage := some 10000 } } }
    let doubles := fun (z : Part) => (Table.get z.attr.stations 2).map (·.doubles)
    (doubles (q.takeTrip true (some 0) 2), doubles (q.takeTrip false (some 0) 2)) = (some 0, some 1) := by decide

theorem witness_DeltaSplitsAddUp :
    (onePig 7 0).rp < 10000 ∧ (onePig 7 0).O = 0 ∧ (onePig 7 0).M ≤ 4294967295 ∧
      (onePig 7 0).P + ([7, 0, 7].sum * (10000 - (onePig 7 0).slip) + (onePig 7 0).rp) / 10000 ≤ 13 := by decide

/-- A launch under way at trap 1, with its reservation, and a pig in the line on the list of station 2. -/
def launchUnderWay : Part :=
  let p := withTrap (withPigs .tracking [onePig 7 100000]) 1
    { freshTrap with state := .equalising, step := some .equalising, holding := some heldPig }
  { p with
    run := { p.run with reservations := [1] }
    attr := { p.attr with stations := Table.modify p.attr.stations 2 fun a => { a with expected := [7] } } }

theorem witness_AdvanceKeepsOrder :
    (launchUnderWay.RunTableSound ∧ ∃ t, step (machine launchUnderWay) = .next t) ∧
    let p := withPigs .tracking [onePig 7 1000000, onePig 8 1000000]
    OrderedPigs p.run.pigs ∧ ∀ g ∈ p.run.pigs, g.P ≤ p.map.lineTotal ∧ g.M ≤ 4294967295 := by
  refine ⟨⟨⟨?_, by decide, ⟨?_, ?_, ?_, ?_, ?_⟩, ?_, ?_, ?_, ?_⟩, _, rfl⟩, ?_, ?_⟩
  · unfold OrderedPigs; decide
  · unfold Table.Rising; decide
  · unfold Table.Rising; decide
  · intro b h; cases h
  · intro b h; cases h
  · unfold Table.Rising; decide
  · unfold Part.IdentitiesDistinct; decide
  · unfold Part.ListsAhead; decide
  · unfold Part.LaunchesReserved; decide
  · unfold Part.StepsAgree TrapRec.StepAgrees; decide
  · unfold OrderedPigs; decide
  · decide

theorem witness_ReleaseAndDeltaCommute :
    (onePig 7 1000000).rp < 10000 ∧ (onePig 7 1000000).M ≤ 4294967295 ∧ targetOf (onePig 7 1000000) 1000 ≤ 4294967295 := by decide

/-- Pigs 7 to 9 in the line, 8 and 9 tagged as their numbers; station 2 (trips and tags) with its lists and its baseline. -/
def detecting (mode : Mode) (expected unobserved : List Nat) (based recovery : Bool) : Part :=
  let p := withPigs mode [{ onePig 7 499900 with M := 10000 }, { onePig 8 300000 with tag := 8 }, { onePig 9 200000 with tag := 9 }]
  { p with attr := { p.attr with stations := Table.modify p.attr.stations 2 fun a =>
      { a with baseline := if based then some (5, 5) else none, recovery := recovery, expected := expected, unobserved := unobserved } } }

theorem witness_ConfirmationSnapsThePig :
    (let p := detecting .tracking [7, 8, 9] [] true false
     (Table.get p.attr.stations 2).map (·.baseline) = some (some (5, 5)) ∧ (Table.get p.map.stations 2).map (·.detector) = some .both ∧
      ((133 : Byte) - 5).toNat = 128 ∧ 128 < ((134 : Byte) - 5).toNat ∧ p.map.hasList 2 = true ∧ p.map.hasList 1 = false ∧
      (Table.get (detecting .tracking [] [] false false).attr.stations 2).map (·.baseline) = some none ∧
      (detecting .setup [] [] true false).link.mode = .setup) ∧
    (let p := detecting .tracking [7, 8, 9] [9] true true
     p.unobserved 2 = [] ++ 9 :: [] ∧ (p.pig 9).map (·.tag) = some 9 ∧ p.expected 2 = [7] ++ 8 :: [9] ∧
      (p.pig 7).map (·.tag) ≠ some 8 ∧ (p.pig 8).map (·.tag) = some 8 ∧ (p.run.pigs.map (·.id)).Nodup ∧ (p.expected 2).Nodup ∧
      Table.has p.attr.stations 2 = true ∧ (∀ id ∈ [7, 8, 9], (p.pig id).map (·.tag) ≠ some 5) ∧
      (detecting .tracking [] [] true false).expected 2 = [] ∧
      p.map.stationCoord 2 ≤ 499900 + min p.tuning.umax (p.tuning.u0 + 10000 * p.tuning.q / 10000) ∧
      300000 + min p.tuning.umax (p.tuning.u0 + 0 * p.tuning.q / 10000) < p.map.stationCoord 2 ∧
      (p.driver (p.map.sectionOf (p.map.stationCoord 2))).isSome = false ∧
      ((metered .tracking .healthy (some 1) true).driver 0).isSome = true) ∧
    let p := withPigs .tracking [onePig 7 400000, onePig 8 300000, onePig 9 200000]
    p.run.pigs = [onePig 7 400000] ++ onePig 8 300000 :: [onePig 9 200000] ∧ OrderedPigs p.run.pigs ∧
      (onePig 8 300000).P ≤ p.map.stationCoord 2 ∧ (onePig 8 500000).P = p.map.stationCoord 2 ∧ (onePig 8 300000).rp < 10000 := by
  refine ⟨by decide, by decide, rfl, ?_, ?_, ?_, ?_⟩
  · unfold OrderedPigs; decide
  all_goals decide

theorem witness_SlipUpdateIsBounded : 2500 ≤ 2500 ∧ (49999 < 50000 ∨ 49999 = 0) ∧ 50000 ≤ 50000 ∧ (0 < 0 ∨ 0 = 0) := by decide

theorem witness_StuckPigsStayOverdue :
    (∀ g ∈ [{ onePig 7 0 with overdue := true, stuck := true }], g.LateFlagsAgree) ∧
      ∃ t, step (machine (withPigs .tracking [{ onePig 7 0 with overdue := true, stuck := true }])) = .next t := by
  refine ⟨?_, _, rfl⟩
  unfold Pig.LateFlagsAgree
  decide

theorem witness_CheckSetsTheFlags :
    let p := withPigs .tracking [onePig 7 400000, { onePig 8 300000 with O := 2001 }, { onePig 9 200000 with O := 152001 }]
    p.run.pigs = [onePig 7 400000] ++ { onePig 8 300000 with O := 2001 } :: [{ onePig 9 200000 with O := 152001 }] ∧
      (p.run.pigs.map (·.id)).Nodup := ⟨rfl, by decide⟩

theorem witness_SlipsStayInRange :
    State.reset.part.SlipsInRange ∧ State.reset.part.ActuatorsWhole ∧ ∃ t, step State.reset = .next t := by
  refine ⟨⟨?_, ?_, ?_, ?_, ?_⟩, ⟨?_, ?_, ?_, ?_⟩, _, rfl⟩
  · intro g h; cases h
  · intro e h; cases h
  · unfold Tuning.SlipsInRange; decide
  · intro b h; cases h
  · intro b h; cases h
  · unfold MapCopy.ActuatorsWhole; decide
  · unfold MapCopy.ActuatorsWhole; decide
  · intro b h; cases h
  · intro b h; cases h

/-- The small line with a barrel span from 400 m to 600 m at station 2. -/
def spanned : MapCopy :=
  { line with
    traps := [(1, lineTrap 1 .launcher 0), (2, { lineTrap 2 .receiver 400 with pair := some 3 }),
              (3, { lineTrap 2 .launcher 600 with pair := some 2 }), (4, lineTrap 3 .receiver 1000)] }

theorem witness_DeclareRefusals :
    checkSegments line.segments 0 0 = none ∧ (lineIn .frozen).link.mode ≠ .tracking ∧ line.lineEnd < 1001 ∧ 2500 < 2501 ∧
      7 ∈ (withPigs .tracking [onePig 7 0]).identities ∧
      (withPigs .tracking ((List.range 12).map fun n => onePig (n + 10) 0)).run.pigs.length ≥ 12 ∧
      (∀ x ∈ emptyMap.legs, ¬(x.1 ≤ 0 ∧ 0 ≤ x.2.2)) ∧ checkSegments spanned.segments 0 0 = none ∧
      (∃ e ∈ spanned.traps, e.2.role = .receiver ∧ e.2.pair = some 3 ∧ spanned.trapCoord e.1 < 400001 ∧
        599999 < spanned.trapCoord 3) ∧
      spanned.placeInLeg 400000 = some 2 ∧ spanned.placeInLeg 500000 = none ∧ spanned.placeInLeg 600000 = some 4 := by decide

theorem witness_DeclarePigEntersThePig :
    let p := withPigs .tracking [onePig 7 100000]
    p.turnOf (requestFrame 0x30 1 []) p.link ∧ p.link.mode = .tracking ∧ OrderedPigs p.run.pigs ∧ 8 ∉ p.identities ∧
      (∀ x ∈ p.records.active, x.id ≠ 8) ∧ p.run.pigs.length + p.run.reservations.length < 12 ∧ line.coord 1000 = some 1000000 ∧
      line.placeInLeg 1000000 = some 2 ∧ line.coord 0 = some 0 ∧ line.placeInLeg 0 = some 2 := by
  refine ⟨⟨rfl, rfl⟩, rfl, ?_, ?_⟩
  · unfold OrderedPigs; decide
  · decide

theorem witness_FixPigMovesThePig :
    let p := withPigs .frozen [onePig 7 400000, onePig 8 300000, onePig 9 200000]
    p.turnOf (requestFrame 0x31 1 []) p.link ∧ p.link.mode ≠ .setup ∧
      p.run.pigs = [onePig 7 400000] ++ onePig 8 300000 :: [onePig 9 200000] ∧ OrderedPigs p.run.pigs ∧
      (∀ a ∈ [onePig 7 400000], 400000 ≤ a.P) ∧ (∀ b ∈ [onePig 9 200000], b.P ≤ 200000) ∧ line.coord 400 = some 400000 ∧
      line.placeInLeg 400000 = some 2 ∧ line.coord 200 = some 200000 ∧ line.placeInLeg 200000 = some 2 ∧
      checkSegments line.segments 0 0 = none ∧ line.lineEnd < 1001 ∧ (∀ g ∈ p.run.pigs, g.id ≠ 10) ∧
      line.coord 401 = some 401000 ∧ (∃ a ∈ [onePig 7 400000], a.P < 401000) ∧ line.coord 199 = some 199000 ∧
      ∃ b ∈ [onePig 9 200000], 199000 < b.P := by
  refine ⟨⟨rfl, rfl⟩, by decide, rfl, ?_, ?_⟩
  · unfold OrderedPigs; decide
  · decide

theorem witness_WriteOffRemovesThePig :
    let p := { withPigs .frozen [onePig 7 400000, onePig 8 300000] with records := { (lineIn .frozen).records with active := [longRecord] } }
    p.turnOf (requestFrame 0x32 1 [7, 0]) p.link ∧ p.link.mode ≠ .setup ∧ p.run.pigs = [] ++ onePig 7 400000 :: [onePig 8 300000] ∧
      OrderedPigs p.run.pigs ∧ (∀ g ∈ p.run.pigs, g.id ≠ 9) ∧ (p.records.active.find? fun y => y.id = 7) = some longRecord := by
  refine ⟨⟨rfl, rfl⟩, by decide, rfl, ?_, ?_⟩
  · unfold OrderedPigs; decide
  · decide

theorem witness_PigQueriesAnswer :
    let p := withTrap (withPigs .tracking [onePig 7 400000, onePig 8 300000]) 1
      { freshTrap with state := .loaded, holding := some heldPig }
    p.turnOf (requestFrame 0x33 1 [8, 0]) p.link ∧ p.turnOf (requestFrame 0x34 1 []) p.link ∧ 10 ∉ p.identities ∧
      p.run.pigs = [onePig 7 400000] ++ onePig 8 300000 :: [] ∧ (∀ a ∈ [onePig 7 400000], a.id ≠ 8) ∧
      (∀ g ∈ p.run.pigs, g.id ≠ 9) ∧ p.IdentitiesDistinct ∧
      (1, { freshTrap with state := .loaded, holding := some heldPig }) ∈ p.traps := by
  refine ⟨⟨rfl, rfl⟩, ⟨rfl, rfl⟩, by decide, rfl, by decide, by decide, ?_, ?_⟩
  · unfold Part.IdentitiesDistinct; decide
  · decide

theorem witness_LoadPigFillsTheLauncher :
    (lineIn .tracking).turnOf (requestFrame 0x40 1 []) (lineIn .tracking).link ∧ (lineIn .tracking).link.mode = .tracking ∧
      Table.get (lineIn .tracking).map.traps 1 = some (lineTrap 1 .launcher 0) ∧ (lineTrap 1 .launcher 0).role = .launcher ∧
      Table.get (lineIn .tracking).traps 1 = some freshTrap ∧ freshTrap.state = .empty ∧
      Table.get (lineIn .tracking).map.traps 2 = some (lineTrap 3 .receiver 1000) ∧ (lineTrap 3 .receiver 1000).role = .receiver ∧
      PigKind.ofCode 4 = some .foam ∧ (9 ∉ (lineIn .tracking).identities) ∧ (∀ x ∈ (lineIn .tracking).records.active, x.id ≠ 9) :=
  ⟨turn _ _, rfl, by decide, rfl, by decide, rfl, by decide, rfl, rfl, by decide, by decide⟩

theorem witness_LaunchAndArmStart :
    (let p := { withPigs .tracking [{ onePig 7 950000 with M := 100 }] with
                attr := { (lineIn .tracking).attr with receivers := [(2, [7])] } }
     Table.get p.map.traps 2 = some (lineTrap 3 .receiver 1000) ∧ p.awaited 2 = 7 :: [] ∧
      p.pig 7 = some { onePig 7 950000 with M := 100 } ∧ p.map.claim 3 = some 0 ∧ (∀ h ∈ p.cmds.held, h.trap ≠ 2) ∧
      p.FreeToStart 2 (lineTrap 3 .receiver 1000) ∧ p.map.trapCoord 2 - 950000 ≤ 50000 ∧
      ¬p.map.trapCoord 2 - 899999 ≤ 50000 + 50000) ∧
    let p := withTrap (lineIn .tracking) 1 { freshTrap with state := .loaded, holding := some heldPig }
    (∀ h ∈ p.cmds.held, h.trap ≠ 1) ∧ p.turnOf (requestFrame 0x41 1 [1]) p.link ∧ p.link.mode = .tracking ∧
      p.map.launcherEnd (p.map.trapCoord 1) = some (2, 1000000) ∧ OrderedPigs p.run.pigs ∧
      p.FreeToStart 1 (lineTrap 1 .launcher 0) ∧ p.map.claim 1 = some 0 ∧
      p.turnOf (requestFrame 0x42 1 [2]) p.link ∧ p.FreeToStart 2 (lineTrap 3 .receiver 1000) ∧ p.map.claim 3 = some 0 ∧
      (onePig 7 4999).legEnd = 2 ∧ 4999 < p.map.trapCoord 1 + p.tuning.smin ∧ ¬(5000 < p.map.trapCoord 1 + p.tuning.smin) := by
  refine ⟨⟨by decide, by decide, by decide, by decide, by decide, ⟨by decide, by decide, 0, by decide⟩, by decide, by decide⟩,
    by decide, ⟨rfl, rfl⟩, rfl, by decide, ?_, ⟨by decide, by decide, 0, by decide⟩, by decide, ⟨rfl, rfl⟩,
    ⟨by decide, by decide, 0, by decide⟩, by decide, rfl, by decide, by decide⟩
  unfold OrderedPigs
  decide

/-- A relay station on the small line's map: launcher 3 pairs with receiver 2. -/
def relayed (p : Part) : Part :=
  { p with
    lineMap := { p.lineMap with committed := { line with
      traps := [(1, lineTrap 1 .launcher 0), (2, { lineTrap 3 .receiver 1000 with pair := some 3 }),
                (3, { lineTrap 3 .launcher 1000 with pair := some 2 })] } }
    traps := [(1, freshTrap), (2, { freshTrap with state := .holding, holding := some heldPig }), (3, freshTrap)] }

theorem witness_TransferAndRemove :
    let p := relayed { lineIn .tracking with records := { (lineIn .tracking).records with active := [{ longRecord with id := 9 }] } }
    p.turnOf (requestFrame 0x43 1 [2]) p.link ∧ p.turnOf (requestFrame 0x44 1 [2]) p.link ∧ p.link.mode ≠ .setup ∧
      (Table.get p.map.traps 2).bind (·.pair) = some 3 ∧
      Table.get p.traps 2 = some { freshTrap with state := .holding, holding := some heldPig } ∧ Table.get p.traps 3 = some freshTrap ∧
      p.awaited 2 = [] ∧ (p.records.active.find? fun x => x.id = 9) = some { longRecord with id := 9 } ∧
      longRecord.entries.length < 48 :=
  ⟨⟨rfl, rfl⟩, ⟨rfl, rfl⟩, by decide, by decide, by decide, by decide, by decide, by decide, by decide⟩

theorem witness_TransferAndRemove_refusals :
    let f := fun kind n => (lineIn .tracking).turnOf (requestFrame kind 1 [n]) (lineIn .tracking).link
    f 0x41 17 ∧ 16 < (17 : Byte).toNat ∧ f 0x43 2 ∧ (2 : Byte).toNat ≤ 16 ∧
      (Table.get (lineIn .tracking).map.traps 2).map (·.pair) = some none ∧ Table.get (lineIn .tracking).map.traps 16 = none :=
  ⟨turn _ _, by decide, turn _ _, by decide, by decide, by decide⟩

/-- Trap n of the small line in a step whose command is COMPLETE. -/
def atStep (n : Nat) (st : TrapState) (role : ValveRole) (holding : Option HeldPig) (abort : Bool) : Part :=
  withTrap (lineIn .tracking) n { freshTrap with
    state := st, step := some st, holding := holding, abort := abort, eqSeen := true
    cmds := [{ role := role, action := .opening, cond := .complete }] }

/-- Receiver 2 of the small line in a state, with pig 7 at its coordinate heading its list. -/
def awaiting (r : TrapRec) : Part :=
  withTrap { withPigs .tracking [onePig 7 1000000] with attr := { (lineIn .tracking).attr with receivers := [(2, [7])] } } 2 r

theorem witness_AbortAndResume_waiting :
    let r := fun (st : TrapState) => { freshTrap with state := st, step := some st }
    let p := awaiting (r .waiting)
    p.awaited 2 = 7 :: [] ∧ p.pig 7 = some (onePig 7 1000000) ∧ p.cmds.held = [] ∧ p.cmds.cmds = [] ∧ p.sharers 2 (lineTrap 3 .receiver 1000) = [] ∧
      (∀ c ∈ (r .diverting).cmds, c.cond = .complete) ∧ (awaiting (r .diverting)).awaited 2 ≠ [] ∧ (p.run.pigs.map (·.id)).Nodup := by
  decide

theorem witness_AbortAndResume_resumed :
    let throttle : StepCond → StepCmd := fun c => { role := .mainline, action := .throttle, cond := c }
    let r := { freshTrap with state := .suspended, step := some .driving, holding := some heldPig, cmds := [throttle .notIssued] }
    let p := withTrap (withPigs .tracking [onePig 7 4999]) 1 r
    let busy := withTrap { lineIn .tracking with cmds := { (lineIn .tracking).cmds with
      cmds := [(lineIn .tracking).queuedCmd 1 1 .opening none .host 0] } } 1 r
    (Table.get p.map.traps 1 = some (lineTrap 1 .launcher 0) ∧ p.turnOf (requestFrame 0x46 1 [1]) p.link ∧ p.cmds.cmds = [] ∧ p.cmds.held = [] ∧
      p.map.launcherEnd (p.map.trapCoord 1) = some (2, 1000000) ∧ (onePig 7 4999).legEnd = 2 ∧
      4999 < p.map.trapCoord 1 + p.tuning.smin ∧ p.map.claim 1 = some 0 ∧ (p.port 0).queue.length + 1 ≤ 8 ∧
      (∀ y ∈ (withTrap (lineIn .tracking) 1 r).run.pigs, p.near 1 y = false)) ∧
    ([throttle .failed].filter fun c => c.cond == .notIssued || c.cond == .failed) ≠ [] ∧
      ([throttle .failed].map fun c => (lineTrap 1 .launcher 0).slotOf c.role).Nodup ∧
    (busy.turnOf (requestFrame 0x46 1 [1]) busy.link ∧ busy.cmds.find 1 ((lineTrap 1 .launcher 0).slotOf .mainline) =
      some ((lineIn .tracking).queuedCmd 1 1 .opening none .host 0) ∧ Origin.host ≠ .sequence 1) :=
  ⟨⟨by decide, ⟨rfl, rfl⟩, by decide, by decide, by decide, by decide, by decide, by decide, by decide, by decide⟩, by decide, by decide,
    ⟨rfl, rfl⟩, by decide, by decide⟩

theorem witness_AbortAndResume :
    (let p := atStep 2 .equalising .equalise none false
     Table.get p.map.traps 2 = some (lineTrap 3 .receiver 1000) ∧ p.RoomFor 2 (lineTrap 3 .receiver 1000) 0 2 [2, 3] ∧
      p.RoomFor 2 (lineTrap 3 .receiver 1000) 0 1 [1] ∧ p.RoomFor 2 (lineTrap 3 .receiver 1000) 0 3 [3, 2, 4] ∧
      (∀ k ∈ [3, 2, 4], ∀ v, p.map.valve 3 k = some v → v.role ≠ .mainline) ∧ p.awaited 2 = []) ∧
    (let p := atStep 1 .opening .flow (some heldPig) false
     Table.get p.map.traps 1 = some (lineTrap 1 .launcher 0) ∧ p.RoomFor 1 (lineTrap 1 .launcher 0) 0 1 [1] ∧
      p.map.launcherEnd (p.map.trapCoord 1) = some (2, 1000000) ∧ OrderedPigs p.run.pigs ∧
      (p.map.valve 1 1).map (·.role) = some .mainline ∧ (lineTrap 1 .launcher 0).slots.Nodup) ∧
    let r := { freshTrap with
      state := .fault, step := some .equalising, cmds := [{ role := .equalise, action := .opening, cond := .complete }] }
    let p := withTrap (withPigs .frozen [onePig 7 400000, onePig 8 300000]) 2 r
    p.link.mode ≠ .setup ∧ p.cmds.cmds = [] ∧ p.cmds.held = [] ∧ (p.run.pigs.map (·.id)).Nodup ∧ Table.get p.traps 2 = some r ∧
      p.turnOf (requestFrame 0x45 1 [2]) p.link ∧ p.turnOf (requestFrame 0x46 1 [2]) p.link ∧ r.state.inProgress = true ∧
      p.map.claim 3 = some 0 ∧ (p.port 0).queue.length < 8 ∧ Table.Rising p.traps ∧ (∀ c ∈ r.cmds, c.cond = .complete) ∧
      freshTrap.state.inProgress = false := by
  refine ⟨⟨by decide, ?_, ?_, ?_, ?_, by decide⟩, ⟨by decide, ?_, by decide, ?_, by decide, by decide⟩, by decide, rfl, rfl, by decide,
    by decide, ⟨rfl, rfl⟩, ⟨rfl, rfl⟩, by decide, by decide, by decide, ?_, by decide, by decide⟩
  · unfold Part.RoomFor; decide
  · unfold Part.RoomFor; decide
  · unfold Part.RoomFor; decide
  · intro k hk v hv
    simp only [List.mem_cons, List.not_mem_nil, or_false] at hk
    rcases hk with rfl | rfl | rfl <;> cases hv <;> decide
  · unfold Part.RoomFor; decide
  · unfold OrderedPigs; decide
  · unfold Table.Rising; decide

theorem witness_DeadlinesExpire :
    let r := { freshTrap with state := .driving, step := some .driving, hold := .separation, deadline := some 600000 }
    let p := withTrap (lineIn .tracking) 1 r
    p.running = true ∧ Table.get p.map.traps 1 = some (lineTrap 1 .launcher 0) ∧ Table.get p.traps 1 = some r ∧
      r.deadline = some 600000 ∧ (∀ h ∈ [HoldReason.interlock, .none, .portSpace], ({ r with hold := h } : TrapRec).hold ≠ .separation) ∧
      (Table.get (withTrap p 2 { r with state := .equalising }).traps 2).map (·.state) = some .equalising ∧
      (Table.get (withTrap p 2 { r with state := .diverting }).traps 2).map (·.state) = some .diverting ∧
      (Table.get (lineIn .tracking).traps 1).map (·.deadline) = some none ∧ Table.get p.traps 3 = none ∧
      fullTable.find 3 2 = none ∧ (fullTable.find 3 1).isSome = true ∧
      (∀ e ∈ p.map.traps, ¬(e.2.station = 2 ∧ 1 ∈ e.2.slots)) := by decide

theorem witness_BarrelTripsMoveThePigs :
    (let p := withTrap (lineIn .tracking) 1 { freshTrap with barrel := some 5 }
     Table.get p.map.traps 1 = some (lineTrap 1 .launcher 0) ∧ (lineTrap 1 .launcher 0).station = 1 ∧ (lineTrap 1 .launcher 0).station ≠ 2 ∧
      (Table.get p.traps 1).map (·.barrel) = some (some 5) ∧ ((133 : Byte) - 5).toNat = 128 ∧ 128 < ((134 : Byte) - 5).toNat ∧
      (Table.get (lineIn .tracking).traps 1).map (·.barrel) = some none ∧ Table.get p.map.traps 16 = none ∧
      (Table.get (atStep 2 .equalising .equalise none false).traps 2).map (fun r => (r.state, r.barrel)) = some (.equalising, none) ∧
      (let c : StepCmd := { role := .equalise, action := .opening, cond := .placed }
       ∃ x ∈ [c], x.cond ≠ .complete)) ∧
    let launching := { freshTrap with state := .driving, step := some .driving, holding := some heldPig }
    let waiting := { freshTrap with state := .waiting, step := some .waiting }
    let p := withTrap (withTrap (withPigs .tracking [onePig 7 400000]) 1 launching) 2 waiting
    let q := { p with attr := { p.attr with receivers := [(2, [7])] } }
    OrderedPigs q.run.pigs ∧ Table.get q.traps 1 = some launching ∧ Table.get q.traps 2 = some waiting ∧
      q.map.launcherEnd (q.map.trapCoord 1) = some (2, 1000000) ∧ (∀ g ∈ q.run.pigs, g.id ≠ heldPig.id) ∧ q.awaited 2 = 7 :: [] ∧
      q.run.pigs = [] ++ onePig 7 400000 :: [] ∧ freshTrap.holding = none := by
  refine ⟨by decide, ?_, by decide, by decide, by decide, by decide, by decide, rfl, rfl⟩
  unfold OrderedPigs
  decide

/-- A host command on a valve of station 2, which no trap of the small line names. -/
def hostCmd (slot : Nat) (cls : CmdClass) (sent : Bool) : Cmd :=
  { station := 2, slot := slot, action := .opening, target := none, cls := cls, origin := .host, port := 0, sent := sent, acked := sent,
    deadline := 0, placed := 0 }

/-- The small line with a mainline valve at each slot of station 2, and these commands of it in the table and in port 0's queue. -/
def withHostCmds (mode : Mode) (cmds : List Cmd) : Part :=
  let p := lineIn mode
  { (p.setPort 0 fun r => { r with queue := (cmds.filter fun c => !c.sent).map fun c => (c.station, c.slot) }) with
    lineMap := { p.lineMap with committed := { line with valves := ((List.range 6).map fun n => (513 + n, lineValve .mainline)) } }
    cmds := { cmds := cmds, held := [], valves := [] } }

/-- Port 0's queue full: seven ESD commands and a NORMAL one behind them. -/
def fullQueue : Part :=
  let cmds := ((List.range 7).map fun n => hostCmd (n + 2) .esd false) ++ [hostCmd 9 .normal false]
  withHostCmds .tracking cmds

theorem witness_ValveIsTestedAndPlaced :
    ((lineIn .setup).turnOf (requestFrame 0x50 1 [2, 1, 1, 0, 0]) (lineIn .setup).link ∧ (lineIn .setup).link.mode = .setup) ∧
    (let p := fullQueue
     p.turnOf (requestFrame 0x50 1 [2, 1, 1, 0, 1]) p.link ∧ Table.get p.map.valves (2 * 256 + 1) = some (lineValve .mainline) ∧
      p.map.claim 2 = some 0 ∧ p.cmds.find 2 1 = none ∧ p.cmds.cmds.length < 24 ∧ (p.port 0).queue.length = 8 ∧
      (p.port 0).queue.getLast? = some (2, 9) ∧ (p.cmds.find 2 9) = some (hostCmd 9 .normal false) ∧ p.cmds.held = [] ∧
      (∀ e ∈ p.map.traps, ¬(e.2.station = 2 ∧ 1 ∈ e.2.slots)) ∧ (∀ e ∈ p.map.traps, ¬(e.2.station = 2 ∧ 9 ∈ e.2.slots)) ∧
      (2, 9) ∉ (p.port 0).queue.dropLast) ∧
    (let p := withHostCmds .tracking [hostCmd 1 .normal true]
     p.cmds.find 2 1 = some (hostCmd 1 .normal true) ∧ (p.port 0).queue.length < 8) ∧
    (let p := withTrap (lineIn .tracking) 2 { freshTrap with state := .waiting, step := some .waiting }
     ∃ e ∈ p.map.traps, e.2.station = 3 ∧ 1 ∈ e.2.slots ∧ (p.trapState e.1).inProgress = true) ∧
    let p := lineIn .tracking
    p.turnOf (requestFrame 0x50 1 [3, 1, 3, 100, 0]) p.link ∧ p.link.mode ≠ .setup ∧
      Table.get p.map.valves (3 * 256 + 1) = some (lineValve .mainline) ∧ p.map.claim 3 = some 0 ∧
      (¬∃ c ∈ p.cmds.cmds, c.station = 3 ∧ c.slot = 1) ∧
      (¬∃ e ∈ p.map.traps, e.2.station = 3 ∧ 1 ∈ e.2.slots ∧ (p.trapState e.1).inProgress = true) ∧
      p.run.pigs.filter (p.near 3) = [] ∧ p.cmds.cmds.length < 24 ∧ (3, 1) ∉ (p.port 0).queue ∧ (p.port 0).queue.length < 8 ∧
      24 ≤ fullTable.cmds.length ∧ emptyMap.claim 3 = none ∧
      ({ withPigs .tracking [onePig 7 1000000] with
          attr := { (lineIn .tracking).attr with stations := [(3, { freshAttr with expected := [7] })] } } : Part).near 3
        (onePig 7 1000000) = true :=
  ⟨⟨⟨rfl, rfl⟩, rfl⟩, ⟨⟨rfl, rfl⟩, by decide, by decide, by decide, by decide, by decide, by decide, by decide, by decide, by decide,
    by decide, by decide⟩, by decide, by decide,
    ⟨rfl, rfl⟩, by decide, by decide, by decide, by decide, by decide, by decide, by decide, by decide, by decide, by decide, by decide,
    by decide⟩

/-- A NORMAL CLOSE of a mainline valve of station 2, which has pig 7 near it, stands alone in port 0's queue at the end of its gap. -/
def nearAtSending (origin : Origin) : Part :=
  let p := withHostCmds .tracking [{ hostCmd 1 .normal false with action := .closing, origin := origin }]
  { (p.setPort 0 fun r => { r with gap := some 50, txn := none }) with
    run := { p.run with pigs := [onePig 7 499900] }
    attr := { p.attr with stations := Table.modify p.attr.stations 2 fun a => { a with expected := [7] } } }

/-- A watched poll is due at port 0, and pig 7 comes within its spread of station 3. -/
def watchedPollDue : Part :=
  let p := withPigs .tracking [onePig 7 999000]
  { (p.setPort 0 fun r => { r with gap := some 50, txn := none, watchDue := true }) with
    attr := { p.attr with stations := Table.modify p.attr.stations 3 fun a => { a with expected := [7] } } }

theorem witness_nearAtSending :
    let p := nearAtSending .host
    let c := { hostCmd 1 .normal false with action := .closing }
    (p.port 0).gap = some 50 ∧ (p.port 0).txn = none ∧ (p.port 0).queue = [(2, 1)] ∧ p.cmds.find 2 1 = some c ∧ c.port = 0 ∧
      p.cmds.held = [] ∧ (p.port 0).watchDue = false ∧ (p.rosterOf 0).stations[(p.port 0).cycle]? = some 1 ∧
      p.run.pigs = [] ++ onePig 7 499900 :: [] ∧ c.cls = .normal ∧ c.action ≠ .opening ∧
      (∃ v, p.map.valve 2 1 = some v ∧ v.role = .mainline) ∧ p.originPig .host ≠ some 7 ∧ p.near 2 (onePig 7 499900) = true ∧
      (∀ e ∈ p.map.traps, ¬(e.2.station = 2 ∧ 1 ∈ e.2.slots)) ∧ (nearAtSending (.sequence 2)).originPig (.sequence 2) ≠ some 7 ∧
      (Table.get p.map.traps 2).isSome = true ∧ (nearAtSending (.sequence 2)).near 2 (onePig 7 499900) = true :=
  ⟨by decide, by decide, by decide, by decide, rfl, rfl, by decide, by decide, rfl, rfl, by decide, ⟨_, rfl, rfl⟩, by decide, by decide,
    by decide, by decide, by decide, by decide⟩

theorem witness_watchedPollDue :
    let p := watchedPollDue
    (p.port 0).gap = some 50 ∧ (p.port 0).txn = none ∧ (p.port 0).queue = [] ∧ (p.port 0).watchDue = true ∧ (p.port 0).watchPtr = none ∧
      (p.rosterOf 0).stations = [1, 2] ++ 3 :: [] ∧ p.isSilent 3 = false ∧ p.expected 3 = [7] ∧ p.pig 7 = some (onePig 7 999000) ∧
      p.map.stationCoord 3 ≤ 999000 + min p.tuning.umax (p.tuning.u0 + 0 * p.tuning.q / 10000) ∧ p.expected 1 = [] ∧ p.expected 2 = [] ∧
      (∀ e ∈ p.map.traps, (p.trapState e.1).inProgress = false) ∧ (∀ e ∈ p.map.traps, p.awaited e.1 = []) := by decide

theorem witness_PortTakesItsTurns :
    let gap := fun (t : Option Txn) => (lineIn .tracking).setPort 0 fun r => { r with gap := some 50, txn := t }
    (gap none).running = true ∧ ((gap none).port 0).gap = some 50 ∧ ((gap none).port 0).queue = [] ∧
      ((gap none).port 0).watchDue = false ∧ ((gap none).rosterOf 0).stations[((gap none).port 0).cycle]? = some 1 ∧
      ((gap (some (pollOf 1 .retryDue))).port 0).txn = some (pollOf 1 .retryDue) ∧
      ((after (.valve 1 [3, 1, 1, 0, 0]) (gap none)).port 0).queue = (3, 1) :: [] ∧
      ((after (.valve 1 [3, 1, 1, 0, 0]) (gap none)).cmds.find 3 1).isSome = true ∧
      (after (.valve 1 [3, 1, 1, 0, 0]) (gap none)).cmds.held = [] := by decide

/-- The part with station x SILENT since a time. -/
def silenced (p : Part) (x : Nat) : Part :=
  { p with ports := { p.ports with stations := Table.modify p.ports.stations x fun y =>
      { y with live := .silent, declaredSilent := some { secs := 3, set := true } } } }

theorem witness_FailedAttemptsAreRetried :
    (let t := { commandTxn (hostCmd 1 .normal true) with phase := .awaiting 400 }
     let p := silenced (withTxn (withHostCmds .tracking [hostCmd 1 .normal true]) t) 2
     p.running = true ∧ p.Awaiting 0 t 400 ∧ p.isSilent 2 = true ∧ t.slot = some 1 ∧ p.cmds.find 2 1 = some (hostCmd 1 .normal true) ∧
      p.cmds.held = [] ∧ (∀ e ∈ p.map.traps, ¬(e.2.station = 2 ∧ 1 ∈ e.2.slots)) ∧ (2, 1) ∉ (p.port 0).queue ∧
      (pollOf 2 (.awaiting 400)).slot = none) ∧
    let p := withTxn (lineIn .tracking) (pollOf 1 (.awaiting 400))
    p.running = true ∧ p.Awaiting 0 (pollOf 1 (.awaiting 400)) 400 ∧ p.isSilent 1 = false ∧
      (pollOf 1 (.awaiting 400)).attempt < (p.rosterOf 0).retryLimit ∧ (p.rosterOf 0).retryLimit ≤ 3 ∧ checkFrame [] = none ∧
      Table.has p.ports.stations 1 = true ∧ Table.has p.meters.meters 1 = true ∧
      ({ pollOf 1 (.awaiting 400) with parts := [[0]] } : Txn).parts ≠ [] ∧
      (∃ g ∈ [onePig 7 500000], g.id ∈ (detecting .tracking [7] [] true false).expected 2 ∧ line.stationCoord 2 ≤ g.P) :=
  ⟨⟨rfl, ⟨rfl, rfl⟩, by decide, rfl, by decide, rfl, by decide, by decide, rfl⟩,
    rfl, ⟨rfl, rfl⟩, by decide, by decide, by decide, rfl, by decide, by decide, by decide, by decide⟩

theorem witness_sequenceCommandAwaited :
    let p := openingUnderWay
    p.Awaiting 0 { commandTxn barrelCmd with phase := .awaiting 400 } 400 ∧ p.isSilent 3 = false ∧
      p.cmds.find 3 2 = some barrelCmd ∧ barrelCmd.sent = true ∧ barrelCmd.acked = true ∧ p.cmds.held = [] ∧
      p.StepPlaced 2 (lineTrap 3 .receiver 1000) openingTrap 3 2 .opening ∧ (Table.get p.map.valves (3 * 256 + 2)).isSome = true ∧
      (∃ w ∈ openingTrap.cmds, w.cond ≠ .complete ∧ ¬((lineTrap 3 .receiver 1000).slotOf w.role = 2 ∧ w.action = .opening)) := by
  refine ⟨⟨rfl, rfl⟩, by decide, by decide, rfl, rfl, rfl, ?_, by decide, by decide⟩
  unfold Part.StepPlaced Table.Rising
  decide

theorem witness_sequenceCommandOnThePort :
    let p := openingUnderWay
    p.turnOf (requestFrame 0x62 1 [0]) p.link ∧ p.cmds.held = [] ∧ p.cmds.Bounded ∧ barrelCmd ∈ p.cmds.cmds ∧ barrelCmd.port = 0 ∧
      (∀ e ∈ p.cmds.cmds, e ≠ barrelCmd → e.origin = .host) ∧ (p.port 0).queue = [] ∧ Table.Rising p.map.meters := by
  refine ⟨⟨rfl, rfl⟩, rfl, ?_, by decide, rfl, by decide, by decide, ?_⟩
  · unfold CmdTable.Bounded; decide
  · unfold Table.Rising; decide

theorem witness_commandsEndTogether :
    let p := bothOutstanding
    let t : Txn := { commandTxn barrelCmd with phase := .awaiting 400, attempt := 3 }
    let m := lineTrap 3 .receiver 1000
    p.running = true ∧ p.turnOf (requestFrame 0x62 1 [0]) p.link ∧ p.Awaiting 0 t 400 ∧ p.isSilent 3 = false ∧
      (p.rosterOf 0).retryLimit ≤ t.attempt ∧ p.expected 3 = [] ∧ (∀ e ∈ p.map.meters, e.2.station ≠ 3) ∧
      (∀ x ∈ (p.rosterOf 0).stations, p.isSilent x = false) ∧
      p.EndableTogether 0 (fun c => c.port == 0) 2 m openingTrap ∧ p.EndableTogether 0 (fun c => c.station == 3) 2 m openingTrap ∧
      [barrelCmd, flowCmd].find? (fun c => decide (c.origin = .sequence 2)) = some barrelCmd := by
  have inTable : ∀ c ∈ bothOutstanding.cmds.cmds,
      (c.sent = true ∨ (c.station, c.slot) ∈ (bothOutstanding.port 0).queue) ∧ c.origin = .sequence 2 ∧
        bothOutstanding.StepPlaced 2 (lineTrap 3 .receiver 1000) openingTrap c.station c.slot c.action ∧ c.port = 0 ∧ c.station = 3 := by
    unfold Part.StepPlaced Table.Rising
    decide
  have queued : ∀ v ∈ (bothOutstanding.port 0).queue, ∀ c, bothOutstanding.cmds.find v.1 v.2 = some c → c.port = 0 ∧ c.sent = false := by
    intro v hv c hc
    have hv' : v = (3, 3) := List.mem_singleton.mp (show v ∈ [(3, 3)] from hv)
    subst hv'
    cases hc
    decide
  have bounded : bothOutstanding.cmds.Bounded := by unfold CmdTable.Bounded; decide
  have endable : ∀ pick : Cmd → Bool, (∀ c, c.port = 0 → c.station = 3 → pick c = true) →
      bothOutstanding.EndableTogether 0 pick 2 (lineTrap 3 .receiver 1000) openingTrap := by
    intro pick picks
    refine ⟨rfl, bounded, by decide, queued, fun c hc => ?_⟩
    obtain ⟨stands, origin, placed, port, station⟩ := inTable c hc
    exact ⟨fun _ => ⟨stands, .inr ⟨origin, placed⟩⟩, fun no => by simp [picks c port station] at no⟩
  exact ⟨rfl, ⟨rfl, rfl⟩, ⟨rfl, rfl⟩, by decide, by decide, by decide, by decide, by decide,
    endable _ fun c port _ => by simp [port], endable _ fun c _ station => by simp [station], by decide⟩

theorem witness_secondOfTwoFrames :
    let t : Txn := { pollOf 2 (.awaiting 400) with parts := [[0]], partCount := 2 }
    let p := withTxn (lineIn .tracking) t
    p.Awaiting 0 t 400 ∧ p.isSilent 2 = false ∧ t.sentKind = .poll ∧ 2 = t.parts.length + 1 ∧ t.partCount = 2 ∧
      (readReport (t.parts ++ [[]]).flatten).isSome = true ∧ readReport (t.parts ++ [[0]]).flatten = none ∧
      t.attempt < (p.rosterOf 0).retryLimit ∧ 3 ≠ t.parts.length + 1 :=
  ⟨⟨rfl, rfl⟩, by decide, rfl, rfl, rfl, by decide, by decide, by decide, by decide⟩

theorem witness_AnswersAreTaken :
    (let t := { commandTxn (hostCmd 1 .normal true) with phase := .awaiting 400 }
     let p := silenced (withTxn (withHostCmds .tracking [hostCmd 1 .normal true]) t) 2
     p.Awaiting 0 t 400 ∧ p.isSilent (2 : Byte).toNat = true ∧ t.sentKind = .command ∧ t.slot = some 1 ∧
      (Table.get p.ports.stations 2).map (·.declaredSilent) = some (some { secs := 3, set := true }) ∧
      p.cmds.find 2 1 = some (hostCmd 1 .normal true) ∧ p.cmds.held = [] ∧ (∀ e ∈ p.map.traps, ¬(e.2.station = 2 ∧ 1 ∈ e.2.slots))) ∧
    (let p := silenced (withTxn (lineIn .tracking) (pollOf 2 (.awaiting 400))) 2
     p.running = true ∧ p.Awaiting 0 (pollOf 2 (.awaiting 400)) 400 ∧ p.isSilent (2 : Byte).toNat = true ∧
      (Table.get p.ports.stations 2).map (·.declaredSilent) = some (some { secs := 3, set := true }) ∧
      (Table.get p.attr.stations 2).isSome = true) ∧
    (let p := withHostCmds .tracking [hostCmd 1 .normal true]
     Table.get p.map.valves (2 * 256 + 1) = some (lineValve .mainline) ∧ Table.get p.map.valves (1 * 256 + 1) = none ∧
      p.cmds.find 2 1 = some (hostCmd 1 .normal true) ∧ p.cmds.find 2 2 = none ∧ p.cmds.held = [] ∧
      (∀ e ∈ p.map.traps, ¬(e.2.station = 2 ∧ 1 ∈ e.2.slots)) ∧ 98 ≤ min 98 100 ∧ ¬98 ≤ min 97 100) ∧
    let t := { commandTxn { station := 2, slot := 1, action := .opening, target := none, cls := .normal, origin := .host, port := 0,
                            sent := true, acked := false, deadline := 0, placed := 0 } with phase := .awaiting 400 }
    let p := { withTxn (lineIn .tracking) t with
      cmds := { cmds := [{ station := 2, slot := 1, action := .opening, target := none, cls := .normal, origin := .host, port := 0,
                           sent := true, acked := false, deadline := 0, placed := 0 }]
                held := [], valves := [] } }
    p.running = true ∧ p.Awaiting 0 t 400 ∧ t.station = (2 : Byte).toNat ∧ p.isSilent 2 = false ∧ t.sentKind = .command ∧
      t.slot = some 1 ∧ (p.cmds.find 2 1).isSome = true ∧ p.cmds.held = [] ∧
      (∀ e ∈ p.map.traps, ¬(e.2.station = 2 ∧ 1 ∈ e.2.slots)) ∧ (readReport [0]).isSome = true ∧
      (List.replicate 200 (0 : Byte)).length ≤ 200 ∧
      (withTxn (lineIn .tracking) (pollOf 2 (.awaiting 400))).Awaiting 0 (pollOf 2 (.awaiting 400)) 400 :=
  ⟨⟨⟨rfl, rfl⟩, by decide, rfl, rfl, by decide, by decide, rfl, by decide⟩,
    ⟨rfl, ⟨rfl, rfl⟩, by decide, by decide, by decide⟩, by decide,
    rfl, ⟨rfl, rfl⟩, rfl, by decide, rfl, rfl, by decide, rfl, by decide, by decide, by decide +kernel, rfl, rfl⟩

theorem witness_ResetPortStartsAfresh :
    (lineIn .tracking).turnOf (requestFrame 0x62 1 [0]) (lineIn .tracking).link ∧ (lineIn .tracking).cmds.cmds = [] ∧
      (∀ x ∈ ((lineIn .tracking).rosterOf 0).stations, (lineIn .tracking).isSilent x = false) ∧ 4 ≤ (4 : Byte).toNat ∧
      (let p := withHostCmds .tracking [hostCmd 1 .normal true, hostCmd 2 .normal false]
       p.turnOf (requestFrame 0x62 1 [0]) p.link ∧ p.cmds.held = [] ∧ p.cmds.Bounded ∧ (p.port 0).queue = [(2, 2)] ∧
        (∀ x ∈ (p.rosterOf 0).stations, p.isSilent x = false) ∧
        (∀ c ∈ p.cmds.cmds, c.port = 0 → c.origin = .host ∧ p.Unnamed c.station c.slot ∧ (c.sent = true ∨ (c.station, c.slot) ∈ (p.port 0).queue)) ∧
        ∀ v ∈ (p.port 0).queue, ∀ c, p.cmds.find v.1 v.2 = some c → c.port = 0 ∧ c.sent = false) := by
  refine ⟨turn _ _, rfl, by decide, by decide, ⟨rfl, rfl⟩, rfl, ?_, by decide, by decide, ?_, ?_⟩
  · unfold CmdTable.Bounded; decide
  · unfold Part.Unnamed; decide
  · intro v hv c hc
    have hv' : v = (2, 2) := List.mem_singleton.mp (show v ∈ [(2, 2)] from hv)
    subst hv'
    cases hc
    decide

theorem witness_EquipmentQueriesAnswer :
    let p := lineIn .setup
    (∀ f, p.turnOf f p.link) ∧ 16 < (17 : Byte).toNat ∧ (Table.get p.map.traps 1).isSome = true ∧ Table.get p.map.traps 16 = none ∧
      (Table.get p.traps 1).isSome = true ∧ (p.map.valve 1 1).isSome = true ∧ p.map.valve 64 6 = none ∧
      ¬(1 ≤ (1 : Byte).toNat ∧ (7 : Byte).toNat ≤ 6) ∧ 64 < (65 : Byte).toNat ∧ (Table.get p.map.stations 1).isSome = true ∧
      Table.get p.map.stations 64 = none ∧ (Table.get p.attr.stations 1).isSome = true :=
  ⟨turn _, by decide, by decide, by decide, by decide, by decide, by decide, by decide, by decide, by decide, by decide, by decide⟩

theorem witness_RecordsReadBack :
    let p := { lineIn .tracking with records := { (lineIn .tracking).records with active := [longRecord], completed := [fullRecord] } }
    p.turnOf (requestFrame 0x70 1 [7, 0]) p.link ∧ p.turnOf (requestFrame 0x71 1 []) p.link ∧
      p.records.active = [] ++ longRecord :: [] ∧ (∀ y ∈ ([] : List RunRec), y.id ≠ 7) ∧
      (∀ r ∈ p.records.active ++ p.records.completed, r.id ≠ 8) ∧ longRecord.entries.length < 48 ∧ 48 ≤ fullRecord.entries.length ∧
      20 ≤ longRecord.entries.length ∧ ((p.records.active ++ p.records.completed).find? fun y => y.serial == 3) = some longRecord ∧
      p.records.cursor = .closed ∧
      ({ p.records with cursor := .opened 3 20 } : Records).cursor = .opened 3 20 ∧
      ({ p.records with cursor := .stranded 7 8 } : Records).cursor = .stranded 7 8 :=
  ⟨⟨rfl, rfl⟩, ⟨rfl, rfl⟩, rfl, by decide, by decide, by decide, by decide, by decide, by decide, rfl, rfl, rfl⟩

end Sys2Proof.Tests
end

/-! LOAD PIG (R102): how its body is read, what each failing check answers, and what a load does. -/

namespace Sys2Proof.Machine

/-! ## Reading a body field by field (R181, R182) -/

/-- A field written between other fields of a body is read back. -/
theorem fieldAt_leBytes_between (front rest : List Byte) (n v : Nat) :
    fieldAt (front ++ (leBytes n v ++ rest)) front.length n = v % 256 ^ n := by
  rw [← fieldAt_leBytes n v rest, ← fieldAt_append front _ 0 n, Nat.add_zero]

theorem leBytes_one_toNat (b : Byte) : leBytes 1 b.toNat = [b] := by
  simp [leBytes]

/-- A byte written between other fields of a body is read back. -/
theorem fieldAt_byte_between (front rest : List Byte) (b : Byte) : fieldAt (front ++ (b :: rest)) front.length 1 = b.toNat := by
  have h := fieldAt_leBytes_between front rest 1 b.toNat
  rwa [leBytes_one_toNat, Nat.mod_eq_of_lt (b := 256 ^ 1) b.isLt] at h

/-- A field of two bytes between other fields of a body is read back. -/
theorem fieldAt_word_between (front rest : List Byte) {v : Nat} (hv : v < 65536) :
    fieldAt (front ++ (leBytes 2 v ++ rest)) front.length 2 = v := by
  rw [fieldAt_leBytes_between]
  exact Nat.mod_eq_of_lt hv

/-- The body of LOAD PIG: trap, identity, tag, kind, slip (A.1). -/
def loadPigBody (n kind : Byte) (id code slip : Nat) : List Byte :=
  [n] ++ leBytes 2 id ++ leBytes 2 code ++ [kind] ++ leBytes 2 slip

/-- A request's body reads as these fields of LOAD PIG. -/
structure Frame.ReadsLoad (f : Frame) (n id code kind : Nat) (slip : Option Nat) : Prop where
  trap : fieldAt f.body 0 1 = n
  id : fieldAt f.body 1 2 = id
  tag : fieldAt f.body 3 2 = code
  kind : fieldAt f.body 5 1 = kind
  slip : optAt f.body 6 2 = slip

@[simp] theorem loadPigBody_length (n kind : Byte) (id code slip : Nat) : (loadPigBody n kind id code slip).length = 8 := by
  simp [loadPigBody]

/-- The slip a request gives: all ones is absent (R182). -/
def slipGiven (slip : Nat) : Option Nat := if slip = 65535 then none else some slip

theorem requestFrame_readsLoad (tag n kind : Byte) {id code slip : Nat} (hid : id < 65536) (hcode : code < 65536)
    (hslip : slip < 65536) :
    (requestFrame 0x40 tag (loadPigBody n kind id code slip)).ReadsLoad n.toNat id code kind.toNat (slipGiven slip) where
  trap := fieldAt_byte_between [] _ n
  id := by simpa [loadPigBody, requestFrame] using fieldAt_word_between [n] (leBytes 2 code ++ kind :: leBytes 2 slip) hid
  tag := by simpa [loadPigBody, requestFrame] using fieldAt_word_between ([n] ++ leBytes 2 id) (kind :: leBytes 2 slip) hcode
  kind := by
    simpa [loadPigBody, requestFrame] using fieldAt_byte_between ([n] ++ leBytes 2 id ++ leBytes 2 code) (leBytes 2 slip) kind
  slip := by
    have read : fieldAt (loadPigBody n kind id code slip) 6 2 = slip := by
      simpa [loadPigBody] using fieldAt_word_between ([n] ++ leBytes 2 id ++ leBytes 2 code ++ [kind]) [] hslip
    simp [optAt, requestFrame, read, slipGiven]

/-! ## The checks -/

/-- The kinds are 1 to 4 (R44, R181). -/
theorem PigKind.ofCode_eq_none_iff (c : Nat) : PigKind.ofCode c = none ↔ c = 0 ∨ 4 < c := by
  match c with
  | 0 | 1 | 2 | 3 | 4 => simp [PigKind.ofCode]
  | c + 5 => simp [PigKind.ofCode]

/-- A slip given is refused when it is present and above 2500 (R102). -/
theorem slipOk_slipGiven (slip : Nat) : slipOk (slipGiven slip) = true ↔ ¬(slip ≠ 65535 ∧ 2500 < slip) := by
  by_cases h : slip = 65535 <;> simp [slipGiven, slipOk, h]

/-- A LOAD PIG is RANGE for a kind that is none, the identity 0 or a slip out of range (R102). -/
def LoadOutOfRange (id kind : Nat) (slip : Option Nat) : Prop :=
  PigKind.ofCode kind = none ∨ id = 0 ∨ slipOk slip = false

theorem loadOutOfRange_iff (id kind slip : Nat) :
    LoadOutOfRange id kind (slipGiven slip) ↔ id = 0 ∨ kind = 0 ∨ 4 < kind ∨ (slip ≠ 65535 ∧ 2500 < slip) := by
  rw [LoadOutOfRange, PigKind.ofCode_eq_none_iff, ← Bool.not_eq_true, slipOk_slipGiven]
  omega

/-- A LOAD PIG that is not RANGE names a kind, and passes the other two checks. -/
theorem not_loadOutOfRange {id kind : Nat} {slip : Option Nat} (ok : ¬LoadOutOfRange id kind slip) :
    (∃ k, PigKind.ofCode kind = some k) ∧ ¬(id = 0 ∨ slipOk slip = false) := by
  obtain ⟨hk, passes⟩ := not_or.mp ok
  exact ⟨Option.ne_none_iff_exists'.mp hk, passes⟩

theorem slipGiven_getD (slip d : Nat) : (slipGiven slip).getD d = if slip = 65535 then d else slip := by
  unfold slipGiven
  split <;> rfl

theorem Part.pig_isSome_iff (p : Part) (id : Nat) : (p.pig id).isSome = true ↔ id ∈ p.run.pigs.map (·.id) := by
  simp [Part.pig]

/-- A holding answers to an identity exactly when the pig in it carries it. -/
theorem holding_any_iff (o : Option HeldPig) (id : Nat) : (o.any fun h => h.id == id) = true ↔ o.map (·.id) = some id := by
  cases o <;> simp

/-- Some trap is found to hold an identity exactly when the identity is among those held (R46). -/
theorem Part.holder_isSome_iff (p : Part) (id : Nat) :
    (p.holder id).isSome = true ↔ id ∈ p.traps.filterMap fun e => e.2.holding.map (·.id) := by
  rw [List.mem_filterMap]
  unfold Part.holder
  cases found : p.traps.find? fun e => e.2.holding.any fun h => h.id == id with
  | none =>
    have nowhere := List.find?_eq_none.mp found
    refine iff_of_false (by simp) ?_
    rintro ⟨e, he, held⟩
    exact nowhere e he ((holding_any_iff _ id).mpr held)
  | some e =>
    have held : e.2.holding.map (·.id) = some id :=
      (holding_any_iff _ id).mp (List.find?_some (p := fun e : Nat × TrapRec => e.2.holding.any fun h => h.id == id) found)
    refine iff_of_true ?_ ⟨e, List.mem_of_find?_eq_some found, held⟩
    obtain ⟨h, there, -⟩ := Option.map_eq_some_iff.mp held
    simp [there]

/-- An identity is present exactly when it is among the identities of the run table and the holdings (R46). -/
theorem Part.present_iff (p : Part) (id : Nat) : p.present id = true ↔ id ∈ p.identities := by
  rw [Part.present, Bool.or_eq_true, Part.pig_isSome_iff, Part.holder_isSome_iff, Part.identities, List.mem_append]

/-! ## Naming a trap (R100) -/

/-- A request names a trap that stands, with its records in the map and in the sequencer (R100). -/
structure Part.NamesTrap (p : Part) (f : Frame) (t : Nat) (m : Trap) (r : TrapRec) : Prop where
  index : fieldAt f.body 0 1 = t
  inRange : RecordKind.trap.inRange t = true
  mapped : Table.get p.map.traps t = some m
  recorded : Table.get p.traps t = some r

/-- A request that names a standing trap acts on it when it fits, and is NO SUCH when it does not (R100). -/
theorem Part.onTrap_of_names {p : Part} {f : Frame} {t : Nat} {m : Trap} {r : TrapRec} (h : p.NamesTrap f t m r)
    (fits : Trap → Bool) (act : Nat → Trap → TrapRec → Part) :
    p.onTrap f fits act = if fits m then act t m r else p.answer f .noSuch [] := by
  obtain ⟨index, inRange, mapped, recorded⟩ := h
  simp only [Part.onTrap, index, inRange, mapped, recorded, if_true]

/-! ## What LOAD PIG answers (R102) -/

section

variable {p : Part} {f : Frame} {t id code kind : Nat} {slip : Option Nat} {m : Trap} {r : TrapRec}

theorem Part.serveLoadPig_of_receiver (h : p.NamesTrap f t m r) (role : m.role = .receiver) :
    p.serveLoadPig f = p.answer f .noSuch [] := by
  simp [Part.serveLoadPig, Part.onTrap_of_names h, Trap.isLauncher, role]

/-- With a launcher named and a kind given, the checks left are the identity's and the slip's range, the identity's being new, and the
launcher's being EMPTY, in this order. -/
theorem Part.serveLoadPig_of_kind {k : PigKind} (h : p.NamesTrap f t m r) (b : f.ReadsLoad t id code kind slip)
    (role : m.role = .launcher) (known : PigKind.ofCode kind = some k) :
    p.serveLoadPig f =
      if id = 0 ∨ slipOk slip = false then p.answer f .range []
      else if id ∈ p.identities then p.answer f .duplicate []
      else if r.state ≠ .empty then p.answer f .trapBusy []
      else
        (p.load t { id, tag := code, kind := k, slip := slip.getD (p.tuning.slipOf k) }).answer f .ok
          [.val 2 (slip.getD (p.tuning.slipOf k))] := by
  simp [Part.serveLoadPig, Part.onTrap_of_names h, Trap.isLauncher, role, b.id, b.tag, b.kind, b.slip, known, Part.present_iff, u16]

theorem Part.serveLoadPig_range (h : p.NamesTrap f t m r) (b : f.ReadsLoad t id code kind slip) (role : m.role = .launcher)
    (bad : LoadOutOfRange id kind slip) : p.serveLoadPig f = p.answer f .range [] := by
  cases hk : PigKind.ofCode kind with
  | none => simp [Part.serveLoadPig, Part.onTrap_of_names h, Trap.isLauncher, role, b.kind, hk]
  | some k =>
    have fails : id = 0 ∨ slipOk slip = false := bad.resolve_left (by simp [hk])
    rw [Part.serveLoadPig_of_kind h b role hk, if_pos fails]

theorem Part.serveLoadPig_duplicate (h : p.NamesTrap f t m r) (b : f.ReadsLoad t id code kind slip) (role : m.role = .launcher)
    (ok : ¬LoadOutOfRange id kind slip) (known : id ∈ p.identities) : p.serveLoadPig f = p.answer f .duplicate [] := by
  obtain ⟨⟨k, hk⟩, passes⟩ := not_loadOutOfRange ok
  rw [Part.serveLoadPig_of_kind h b role hk, if_neg passes, if_pos known]

theorem Part.serveLoadPig_trapBusy (h : p.NamesTrap f t m r) (b : f.ReadsLoad t id code kind slip) (role : m.role = .launcher)
    (ok : ¬LoadOutOfRange id kind slip) (new : id ∉ p.identities) (busy : r.state ≠ .empty) :
    p.serveLoadPig f = p.answer f .trapBusy [] := by
  obtain ⟨⟨k, hk⟩, passes⟩ := not_loadOutOfRange ok
  rw [Part.serveLoadPig_of_kind h b role hk, if_neg passes, if_neg new, if_pos busy]

theorem Part.serveLoadPig_loads {k : PigKind} (h : p.NamesTrap f t m r) (b : f.ReadsLoad t id code kind slip)
    (role : m.role = .launcher) (ok : ¬LoadOutOfRange id kind slip) (hk : PigKind.ofCode kind = some k) (new : id ∉ p.identities)
    (empty : r.state = .empty) :
    p.serveLoadPig f =
      (p.load t { id, tag := code, kind := k, slip := slip.getD (p.tuning.slipOf k) }).answer f .ok
        [.val 2 (slip.getD (p.tuning.slipOf k))] := by
  rw [Part.serveLoadPig_of_kind h b role hk, if_neg (not_loadOutOfRange ok).2, if_neg new, if_neg (not_not_intro empty)]

end

/-! ## What a load does (R102, R160, R162) -/

/-- Changing the open record of an identity reaches the record just opened alone, when no other is open under it. -/
theorem Records.modifyOpen_concat {rs : Records} {before : List RunRec} {x : RunRec} {f : RunRec → RunRec}
    (active : rs.active = before ++ [x]) (new : ∀ y ∈ before, y.id ≠ x.id) :
    rs.modifyOpen x.id f = { rs with active := before ++ [f x] } := by
  have keep : before.map (fun y => if y.id = x.id then f y else y) = before := by
    rw [List.map_congr_left fun y hy => if_neg (new y hy), List.map_id']
  simp [Records.modifyOpen, active, keep]

/-- A record just opened, with its first entry (R160, R161). -/
def Part.openedRecord (p : Part) (id tag : Nat) (kind : PigKind) (location : Location) (e : Entry) : RunRec :=
  { serial := p.records.nextSerial, id, tag, kind, opened := p.stamp, location, outcome := none, closed := none,
    entries := [e], truncated := false, dropped := 0 }

/-- Opening a record of an identity that has none open, and making its first entry, appends that record alone (R160, R161). -/
theorem Part.openRecord_entry {p : Part} {id : Nat} (new : ∀ x ∈ p.records.active, x.id ≠ id) (tag : Nat) (kind : PigKind)
    (location : Location) (entry : EntryKind) (point : Point) (P M : Option Nat) (slip : Nat) :
    (p.openRecord id tag kind location).entry id entry point P M slip =
      { p with
        records := { p.records with
          nextSerial := p.records.nextSerial + 1
          active := p.records.active ++
            [p.openedRecord id tag kind location { kind := entry, point, time := p.stamp, P, M, slip }] } } :=
  congrArg (fun rs : Records => { p with records := rs })
    (Records.modifyOpen_concat (rs := (p.openRecord id tag kind location).records)
      (f := fun r => r.append { kind := entry, point, time := p.stamp, P, M, slip }) rfl new)

/-- A load of an identity that has no open record changes the trap's record and the run records alone. -/
theorem Part.load_eq {p : Part} (t : Nat) (h : HeldPig) (new : ∀ x ∈ p.records.active, x.id ≠ h.id) :
    p.load t h =
      { p with
        traps := Table.modify p.traps t fun x => { x with state := .loaded, holding := some h }
        records := { p.records with
          nextSerial := p.records.nextSerial + 1
          active := p.records.active ++
            [p.openedRecord h.id h.tag h.kind (.inTrap t)
              { kind := .loaded, point := .trap t, time := p.stamp, P := none, M := none, slip := h.slip }] } } :=
  Part.openRecord_entry (p := p.setTrap t fun x => { x with state := .loaded, holding := some h }) new ..

/-! ## The request -/

/-- In TRACKING, a LOAD PIG whose turn has come reaches the sequencer. -/
theorem exec_loadPig_of_turn {s : State} {tag : Byte} {body : List Byte} {l : Link} (turn : s.part.turnOf (requestFrame 0x40 tag body) l)
    (len : body.length = 8) (mode : s.part.link.mode = .tracking) :
    exec (.loadPig tag body) s = .next (s.become (Part.serveLoadPig { s.part with link := l } (requestFrame 0x40 tag body))) :=
  goOn_request Part.serveLoadPig turn len (by rw [mode]; rfl)

/-- Settles O48: of the request's fields, each check of R102 is one branch of the sequencer's, and a load is `Part.load_eq`. -/
theorem loadPigFillsTheLauncher : Obligations.LoadPigFillsTheLauncher := by
  intro tag n kind id code slip m r l s n_ge n_le hid hcode hslip body f now refused range known turn mode mapped recorded
  have reads : f.ReadsLoad n.toNat id code kind.toNat (slipGiven slip) := requestFrame_readsLoad tag n kind hid hcode hslip
  have runs : exec (.loadPig tag body) s = .next (s.become (Part.serveLoadPig { s.part with link := l } f)) :=
    exec_loadPig_of_turn turn (loadPigBody_length n kind id code slip) mode
  have names : Part.NamesTrap { s.part with link := l } f n.toNat m r :=
    ⟨reads.trap, by simp [RecordKind.inRange, n_ge, n_le], mapped, recorded⟩
  have range_iff : LoadOutOfRange id kind.toNat (slipGiven slip) ↔ range := loadOutOfRange_iff id kind.toNat slip
  have refuse {c : ReplyCode} (h : Part.serveLoadPig { s.part with link := l } f = Part.answer { s.part with link := l } f c []) :
      refused c := by
    show exec _ s = _
    rw [runs, h, Part.answer_of_taken]
  refine ⟨fun role => ?noSuch, fun role bad => ?range, fun role ok dup => ?duplicate, fun role ok new busy => ?trapBusy,
    fun k role ok hk new empty closed => ?loads⟩
  case noSuch => exact refuse (Part.serveLoadPig_of_receiver names role)
  case range => exact refuse (Part.serveLoadPig_range names reads role (range_iff.mpr bad))
  case duplicate => exact refuse (Part.serveLoadPig_duplicate names reads role (mt range_iff.mp ok) dup)
  case trapBusy => exact refuse (Part.serveLoadPig_trapBusy names reads role (mt range_iff.mp ok) new busy)
  case loads =>
    rw [runs, Part.serveLoadPig_loads names reads role (mt range_iff.mp ok) hk new empty, Part.load_eq _ _ closed, slipGiven_getD]
    rfl

end Sys2Proof.Machine

/-! FETCH NOTICES (R173): what leaves the queue, what is answered, and what the alert output then shows. -/

namespace Sys2Proof.Machine

/-- A request whose turn has come and whose body has another length than its kind's is answered BAD LENGTH, in every mode (R170). -/
theorem goOn_request_badLength {s : State} {kind : Nat} {tag : Byte} {body : List Byte} {l : Link} {length : Nat}
    {openIn : Mode → Bool} (act : Part → Frame → Part) (h : s.part.turnOf (requestFrame kind tag body) l)
    (hlen : body.length ≠ length) :
    goOn s (s.part.request kind tag body length openIn act) =
      .next (s.become (s.part.onlyReplies l (requestFrame kind tag body) .badLength [])) := by
  have wrong : (body.length == length) = false := beq_eq_false_iff_ne.mpr hlen
  rw [Part.request, Part.taking_of_turn h, wrong]
  rfl

/-- The reply to FETCH NOTICES: the number returned, the number left, the overflow count, and the notices returned (R173, A.1). -/
theorem Link.fetchFields_eq (l : Link) :
    l.fetchFields =
      [.val 1 (min 8 l.notices.length), .val 1 (l.notices.length - 8), .val 2 l.overflow] ++
        (l.notices.take 8).flatMap Notice.fields := by
  simp only [Link.fetchFields, u8, u16, fetchLimit, List.length_take, List.length_drop]

/-- Once the frame has been taken, the fetch works on the queue and the overflow count as they were before (R170, R173). -/
theorem Part.serveFetchNotices_of_taken {p : Part} {f : Frame} {l : Link} (h : p.link.takes f = some l) :
    Part.serveFetchNotices { p with link := l } f =
      p.onlyReplies { l with notices := p.link.notices.drop 8, overflow := 0 } f .ok p.link.fetchFields := by
  obtain ⟨-, notices, overflow, -⟩ := Link.takes_keeps h
  have fields : l.fetchFields = p.link.fetchFields := by
    rw [Link.fetchFields_eq, Link.fetchFields_eq, notices, overflow]
  rw [← fields, ← notices]
  rfl

/-- While the part runs, the alert output shows whether the queue holds a notice (R172). -/
theorem Part.alertHigh_iff_of_running {p : Part} (h : p.running = true) : p.alertHigh = true ↔ p.link.notices ≠ [] := by
  simp [Part.alertHigh, h]

/-- Settles O21: the frame's leaving the buffer touches neither the queue nor the counts, so the fetch returns and removes from the queue
as it stood, and what is left of it is empty exactly when it held at most 8. -/
theorem fetchNoticesReturnsTheOldest : Obligations.FetchNoticesReturnsTheOldest := by
  intro tag body l s turn
  obtain ⟨running, takes⟩ := turn
  refine ⟨fun empty => ?fetches, fun filled => ?badLength⟩
  case fetches =>
    have runs : exec (.fetchNotices tag body) s =
        .next (s.become (Part.serveFetchNotices { s.part with link := l } (requestFrame 0x03 tag body))) :=
      goOn_request Part.serveFetchNotices ⟨running, takes⟩ (by rw [empty]; rfl) rfl
    rw [Part.serveFetchNotices_of_taken takes, Link.fetchFields_eq] at runs
    have left : s.part.link.notices.drop 8 ≠ [] ↔ 8 < s.part.link.notices.length := by
      rw [ne_eq, List.drop_eq_nil_iff, Nat.not_le]
    refine ⟨_, runs, rfl, (Part.alertHigh_iff_of_running ?_).trans left⟩
    exact running
  case badLength =>
    exact goOn_request_badLength Part.serveFetchNotices ⟨running, takes⟩ (mt List.length_eq_zero_iff.mp filled)

end Sys2Proof.Machine
